-- ==== Sys2Proof/Word.lean ====
section
/-! DEFINITION. The byte, the only word the part sends, receives and stores whole (00_scope.md 1.3, R192). -/

namespace Sys2Proof

/-- One byte on a link, on the display port or in a record. -/
abbrev Byte := BitVec 8

/-- A character code, 0x00 to 0xFF (R1). -/
abbrev Code := BitVec 8

/-- The byte of a number below 256. -/
abbrev byte (n : Nat) : Byte := BitVec.ofNat 8 n

end Sys2Proof
end

