-- ==== Sys2Proof/Syntax.lean ====
section
/-! DEFINITION. The commands: one constructor for each row of spec/opcode_table.json, with the operands the row's rule gives it. -/

namespace Sys2Proof

/-- The three outside processors, each with its link (00_scope.md 1.4, R192). -/
inductive Station where
  | keyboard | mechanism | interface
deriving DecidableEq, Repr

/-- The two sources of text, called streams (R39). -/
inductive Stream where
  | keyboard | interface
deriving DecidableEq, Repr

/-- The four sense inputs (R180). -/
inductive SenseInput where
  | cover | paper | ribbon | tape
deriving DecidableEq, Repr

/-- What a transfer on the dictionary port brought (R152): a missing acknowledge, or the bytes the memory holds from the
transfer's start address on, as many as the part may read. -/
inductive DictReply where
  | noAcknowledge
  | data (bytes : List Byte)
deriving DecidableEq, Repr

/-- The part's steps (spec/opcode_table.json, in its order). A request row carries the link its frame ended on and the
frame's whole payload (R195); a row of the composer carries the stream whose head is taken where both streams may hold the
code (R40); a row of the display port carries the level of DBUSY it finds (R177); the end of a dictionary transfer carries
what it brought (R152). -/
inductive Instr where
  | powerOn
  | resetAssert
  | resetRelease
  | frameBadLength (link : Station)
  | shortFrame (link : Station) (codeReceived : Bool)
  | overrun (link : Station)
  | unknownRequest (link : Station) (code : Byte) (payload : List Byte)
  | answer (link : Station) (readToEnd : Bool)
  | keys (link : Station) (payload : List Byte)
  | text (link : Station) (payload : List Byte)
  | holdLines (link : Station) (payload : List Byte)
  | releaseLines (link : Station) (payload : List Byte)
  | readDiverted (link : Station) (payload : List Byte)
  | takeLine (link : Station) (payload : List Byte)
  | setStreams (link : Station) (payload : List Byte)
  | setComposition (link : Station) (payload : List Byte)
  | setTab (link : Station) (payload : List Byte)
  | clearTab (link : Station) (payload : List Byte)
  | clearTabs (link : Station) (payload : List Byte)
  | setClasses (link : Station) (payload : List Byte)
  | loadWheelTableHeader (link : Station) (payload : List Byte)
  | loadWheelTableEntries (link : Station) (payload : List Byte)
  | loadWheelTableFinal (link : Station) (payload : List Byte)
  | eraseWheelTable (link : Station) (payload : List Byte)
  | wheelReport (link : Station) (payload : List Byte)
  | fetchOrder (link : Station) (payload : List Byte)
  | orderDone (link : Station) (payload : List Byte)
  | resume (link : Station) (payload : List Byte)
  | discard (link : Station) (payload : List Byte)
  | forceHome (link : Station) (payload : List Byte)
  | setHomeInterval (link : Station) (payload : List Byte)
  | cancelLifts (link : Station) (payload : List Byte)
  | readNextOrder (link : Station) (payload : List Byte)
  | setEnergy (link : Station) (payload : List Byte)
  | setSpelling (link : Station) (payload : List Byte)
  | setSkipRule (link : Station) (payload : List Byte)
  | addWord (link : Station) (payload : List Byte)
  | removeWord (link : Station) (payload : List Byte)
  | spellAnswerAccept (link : Station) (payload : List Byte)
  | spellAnswerAdd (link : Station) (payload : List Byte)
  | spellAnswerReject (link : Station) (payload : List Byte)
  | showMessage (link : Station) (payload : List Byte)
  | clearMessage (link : Station) (payload : List Byte)
  | setSignals (link : Station) (payload : List Byte)
  | setLamps (link : Station) (payload : List Byte)
  | clearLamps (link : Station) (payload : List Byte)
  | beep (link : Station) (payload : List Byte)
  | supplyNew (link : Station) (payload : List Byte)
  | setCounter (link : Station) (payload : List Byte)
  | countersFreeze (link : Station) (payload : List Byte)
  | countersRun (link : Station) (payload : List Byte)
  | countersClear (link : Station) (payload : List Byte)
  | setStepping (link : Station) (payload : List Byte)
  | stepRequest (link : Station) (payload : List Byte)
  | get (link : Station) (payload : List Byte)
  | readStatus (link : Station) (payload : List Byte)
  | readLine (link : Station) (payload : List Byte)
  | takeNotice (link : Station) (payload : List Byte)
  | readNotice (link : Station) (payload : List Byte)
  | setNoticeRoute (link : Station) (payload : List Byte)
  | softRestart (link : Station) (payload : List Byte)
  | composePrintable (src : Stream)
  | backspace (src : Stream)
  | tab (src : Stream)
  | index (src : Stream)
  | reverseIndex (src : Stream)
  | halfUp (src : Stream)
  | halfDown (src : Stream)
  | carriageReturn (src : Stream)
  | boldOn (src : Stream)
  | boldOff (src : Stream)
  | underlineOn (src : Stream)
  | underlineOff (src : Stream)
  | correct
  | wordCorrect
  | lineCorrect
  | relocate
  | cursorLeft
  | cursorRight
  | delete
  | marginRelease
  | centre (src : Stream)
  | flushRight (src : Stream)
  | clearLine
  | notHolderDrop (src : Stream)
  | divertKey
  | wordGroupRelease
  | wordWrap
  | groupCellIssue
  | lineCellIssue
  | heldOrderAppend
  | homeAppend
  | homeCountExpiry
  | refillExpiry
  | holdLapseExpiry
  | sensePinChange (input : SenseInput) (level : Bool)
  | filterTimerExpiry (input : SenseInput)
  | beepTimerExpiry
  | messageExpiry
  | displaySnapshot (dbusy : Bool)
  | displayByteSent (dbusy : Bool)
  | busyWaitExpiry
  | retryTimerExpiry (dbusy : Bool)
  | headerTransferStart
  | headerTransferEnd (reply : DictReply)
  | lookupStart
  | directoryTransferEnd (reply : DictReply)
  | bodyTransferEnd (reply : DictReply)
deriving DecidableEq, Repr

end Sys2Proof
end

