-- ==== Sys2Proof/Decode.lean ====
section
/-! DEFINITION. Decoding of table words. The part has no instruction words: no row of spec/opcode_table.json gives bits, so no
word spells a command. -/

namespace Sys2Proof

/-- The command that the lowest `nbits` bits of `w` spell by the table's bits: none, since no row gives bits. -/
def decodeTableWord (_nbits _w : Nat) : Option Instr := none

end Sys2Proof
end

