-- ==== Sys2Proof/Config.lean ====
section
/-! DEFINITION. Free values: what spec/ leaves open and no proof may see. Each is an opaque constant with no body. -/

namespace Sys2Proof.Config

/-- Bits of a format of R203 to which no meaning is given, and bytes of the status record for values that do not exist
yet (N and the word count before a header was read). The argument numbers the place. notes/assumptions/14.md, 16.md. -/
opaque unassigned : Nat → Byte

/-- Byte 30 of the status record, "stepping mode and credit" (R203): the packing into one byte is not stated.
notes/assumptions/15.md. -/
opaque steppingByte : Bool → Bool → Byte

/-- Byte 31 of the status record, "current line layout and composition" (R203): the packing into one byte is not stated.
The arguments are the numbers of the layout and of the composition, the latter absent while the line has no holder.
notes/assumptions/15.md. -/
opaque layoutByte : Nat → Option Nat → Byte

/-- The byte in which CANCEL LIFTS answers a count of removed LIFT orders above 255 (R140). notes/assumptions/17.md. -/
opaque largeCount : Nat → Byte

end Sys2Proof.Config
end

