-- ==== Sys2Proof/Machine/Types.lean ====
section
/-! DEFINITION. The blocks of the part as plain data, each with its value after power-on (00_scope.md 1.1; the state table at
the head of each chapter). -/

namespace Sys2Proof.Machine

/-! ## Wheel table store (chapter 1) -/

/-- Character classes (R2). -/
inductive CharClass where
  | control | space | letter | digit | apostrophe | hyphen | punct
deriving DecidableEq, Repr

/-- An entry of the character class table (R2). -/
structure ClassEntry where
  cls  : CharClass
  fold : Code
deriving DecidableEq, Repr

/-- Pitch setting, native pitch and effective pitch (R5, R17). -/
inductive Pitch where
  | p10 | p12 | p15 | ps
deriving DecidableEq, Repr

/-- The kind of a wheel table entry (R5). -/
inductive EntryKind where
  | spacing | nonspacing | composite
deriving DecidableEq, Repr

/-- An entry of a wheel table (R5); `petal = none` is "not on wheel", the width is in units. -/
structure WheelEntry where
  petal  : Option Nat
  width  : Nat
  energy : Nat
  kind   : EntryKind
  second : Option Nat
deriving DecidableEq, Repr

/-- The header of a wheel table (R5); the space width is in units. -/
structure WheelHeader where
  wheelId    : Nat
  native     : Pitch
  underscore : Nat
  space      : Nat
deriving DecidableEq, Repr

/-- A wheel table slot (R5). Entries and written set have one place for each code from 0x20 on. -/
inductive Slot where
  | empty
  | loading (header : WheelHeader) (entries : List WheelEntry) (written : List Bool)
  | loaded (header : WheelHeader) (entries : List WheelEntry)
deriving DecidableEq, Repr

/-- The wheel table store. -/
structure WheelStore where
  /-- One entry for each code, R2. -/
  classes : List ClassEntry
  /-- Slots 0 to 3, R5. -/
  slots   : List Slot
  /-- Mounted wheel ID, 63 when none is identified, R11. -/
  mounted : Nat
deriving DecidableEq, Repr

/-- The built-in class of a code (R3). -/
def defaultClass (n : Nat) : CharClass :=
  if n < 0x20 then .control
  else if n = 0x20 then .space
  else if n = 0x27 then .apostrophe
  else if n = 0x2D then .hyphen
  else if 0x30 ≤ n ∧ n ≤ 0x39 then .digit
  else if (0x41 ≤ n ∧ n ≤ 0x5A) ∨ (0x61 ≤ n ∧ n ≤ 0x7A) ∨ 0xC0 ≤ n then .letter
  else .punct

/-- The built-in fold code of a code (R3): the lower-case letter for 0x41 to 0x5A, the code itself for every other. -/
def defaultFold (n : Nat) : Nat :=
  if 0x41 ≤ n ∧ n ≤ 0x5A then n + 0x20 else n

/-- The built-in character class table (R3). -/
def defaultClasses : List ClassEntry :=
  (List.range 256).map fun n => { cls := defaultClass n, fold := byte (defaultFold n) }

/-- After power-on: built-in classes, four EMPTY slots, no wheel identified (R3, R5, R11). -/
def WheelStore.powerOn : WheelStore :=
  { classes := defaultClasses, slots := [.empty, .empty, .empty, .empty], mounted := 63 }

/-! ## Streams and line holding (chapter 3) -/

/-- Non-holder policies (R47). -/
inductive Policy where
  | wait | refuse | divert
deriving DecidableEq, Repr

/-- Page hold (R51). -/
inductive PageHold where
  | off | waiting | on
deriving DecidableEq, Repr

/-- Stream intake and line holding. -/
structure Streams where
  /-- Type-ahead queue, head first, at most 64 codes, R39. -/
  typeAhead      : List Code
  /-- Interface stream queue, head first, at most 256 codes, R39. -/
  interfaceQ     : List Code
  /-- Divert queue, head first, at most 16 codes, R39. -/
  divertQ        : List Code
  /-- Line holder, `none` for NONE, R44. -/
  holder         : Option Stream
  pageHold       : PageHold
  lapsePending   : Bool
  takeover       : Bool
  /-- Hold lapse timer: `none` stopped, else the seconds it was started from, R53. -/
  lapseTimer     : Option Nat
  roomLow        : Bool
  kbPolicy       : Policy
  ifPolicy       : Policy
  lapseTime      : Nat
  roomThreshold  : Nat
deriving DecidableEq, Repr

/-- After power-on (the table at the head of chapter 3). -/
def Streams.powerOn : Streams :=
  { typeAhead := [], interfaceQ := [], divertQ := [], holder := none, pageHold := .off, lapsePending := false,
    takeover := false, lapseTimer := none, roomLow := false, kbPolicy := .wait, ifPolicy := .wait,
    lapseTime := 10, roomThreshold := 64 }

/-! ## Composition settings (chapters 1, 2, 4) -/

/-- Mode setting and composition (R59, R62). -/
inductive Mode where
  | direct | word | line
deriving DecidableEq, Repr

/-- Layouts (R59). -/
inductive Layout where
  | left | justify | centre | flush
deriving DecidableEq, Repr

/-- The settings of SET COMPOSITION and the tab stops (R17, R23, R24, R26, R64). -/
structure Settings where
  kbMode      : Mode
  ifMode      : Mode
  autoReturn  : Bool
  /-- In half-lines, R64. -/
  lineSpacing : Nat
  pitch       : Pitch
  /-- Left margin L, R23. -/
  left        : Nat
  /-- Right margin M, R23. -/
  right       : Nat
  hotZone     : Nat
  xmax        : Nat
  layout      : Layout
  /-- Ascending tab stops, R26. -/
  tabs        : List Nat
deriving DecidableEq, Repr

/-- After power-on (the tables of chapter 2 and R64). -/
def Settings.powerOn : Settings :=
  { kbMode := .direct, ifMode := .direct, autoReturn := true, lineSpacing := 2, pitch := .p10, left := 120, right := 900,
    hotZone := 72, xmax := 24, layout := .left, tabs := [] }

/-! ## Line store (chapter 4) -/

/-- Cell states (R60, R61). -/
inductive CellState where
  | held | spellHold | released | printed | lifting
deriving DecidableEq, Repr

/-- Spell marks (R60). -/
inductive SpellMark where
  | none | checking | known | unknown | accepted | skipped | unchecked
deriving DecidableEq, Repr

/-- A cell (R60). `id` numbers cells in the order of typing and names the cell in references; `word` numbers the capture
that gave the cell its present mark: both are the model's own (notes/assumptions/20.md). -/
structure Cell where
  id          : Nat
  code        : Code
  start       : Nat
  width       : Nat
  extra       : Nat
  bold        : Bool
  underline   : Bool
  source      : Stream
  state       : CellState
  mark        : SpellMark
  overstrike  : Bool
  fixed       : Bool
  notOnWheel  : Bool
  ticket      : Option Byte
  word        : Option Nat
  outstanding : Nat
deriving DecidableEq, Repr

/-- States of a line record (R59). -/
inductive LineState where
  | composing | releasing | printing
deriving DecidableEq, Repr

/-- A line record (R59). -/
structure Line where
  cells        : List Cell
  layout       : Layout
  composition  : Option Mode
  snapshot     : Nat
  state        : LineState
  returnSerial : Option Byte
deriving DecidableEq, Repr

/-- The line store (R59). -/
structure LineStore where
  current  : Line
  outgoing : Option Line
deriving DecidableEq, Repr

/-- A current line as it begins, with no holder (R59). -/
def Line.fresh (layout : Layout) (left : Nat) : Line :=
  { cells := [], layout := layout, composition := none, snapshot := left, state := .composing, returnSerial := none }

/-- After power-on: an empty current line, no outgoing line (R59). -/
def LineStore.powerOn : LineStore := { current := Line.fresh .left 120, outgoing := none }

/-! ## Composer (chapter 4) -/

/-- An attribute state (R63). -/
structure Attr where
  bold      : Bool
  underline : Bool
deriving DecidableEq, Repr

/-- A closed group whose cells are being issued (R74 steps 3 and 4): the cells not yet issued, how many were found not on
the wheel at issue, and the source of the closing MOVE. -/
structure GroupIssue where
  left    : List Nat
  skipped : Nat
  source  : Stream
deriving DecidableEq, Repr

/-- A line release in progress (R82): how many cells were found not on the wheel at issue, and the source of the RETURN,
that of the line's holder at the line end (R83). -/
structure LineRelease where
  skipped : Nat
  source  : Stream
deriving DecidableEq, Repr

/-- The composer's own state (R63, R73, R74, R82). -/
structure Composer where
  p             : Nat
  cursor        : Nat
  kbAttr        : Attr
  ifAttr        : Attr
  marginRelease : Bool
  bellRung      : Bool
  openGroup     : List Nat
  closedGroups  : List (List Nat)
  issue         : Option GroupIssue
  release       : Option LineRelease
  nextCell      : Nat
  nextWord      : Nat
deriving DecidableEq, Repr

/-- After power-on (R63). -/
def Composer.powerOn : Composer :=
  { p := 120, cursor := 0, kbAttr := ⟨false, false⟩, ifAttr := ⟨false, false⟩, marginRelease := false, bellRung := false,
    openGroup := [], closedGroups := [], issue := none, release := none, nextCell := 0, nextWord := 0 }

/-! ## Orders and dispatch (chapter 5) -/

/-- Order kinds (R86). -/
inductive OrderKind where
  | strike | lift | move | ret | feed | home | init
deriving DecidableEq, Repr

/-- Sources of orders (00_scope.md 1.3). -/
inductive Source where
  | keyboard | interface | correction | automatic
deriving DecidableEq, Repr

/-- Strike roles (R22). -/
inductive Role where
  | main | second | bold | underline
deriving DecidableEq, Repr

/-- What a LIFT removes (R86): a strike record, named by the model's own record number and by its serial, or the record that
the FETCHED STRIKE of a serial will leave. -/
inductive LiftLink where
  | record (id : Nat) (serial : Byte)
  | serial (serial : Byte)
deriving DecidableEq, Repr

/-- The fields of an order that are fixed by its maker (R86); serial, state, travel and cost come with its place in the
queue (`Order`). -/
structure Job where
  kind   : OrderKind
  target : Nat
  petal  : Option Nat
  second : Option Nat
  energy : Option Nat
  wheel  : Option Nat
  width  : Option Nat
  feed   : Option Int
  source : Source
  role   : Option Role
  cell   : Option Nat
  link   : Option LiftLink
deriving DecidableEq, Repr

/-- An order in the queue (R86); `fetched` is its state, FETCHED or PENDING. -/
structure Order where
  serial  : Byte
  fetched : Bool
  travel  : Nat
  cost    : Nat
  job     : Job
deriving DecidableEq, Repr

/-- Dispatch states (R91). -/
inductive DispatchState where
  | running | halted
deriving DecidableEq, Repr

/-- The dispatcher. -/
structure Dispatch where
  /-- Order queue, head first, at most 32 orders, R89. -/
  orders       : List Order
  /-- Order serial counter, R88. -/
  counter      : Byte
  state        : DispatchState
  /-- Completed carriage position C, R91. -/
  c            : Nat
  offerable    : Bool
  homeInterval : Nat
  homeCount    : Nat
  homeDue      : Bool
  /-- Target of the due HOME held for the next free place, R107. -/
  homeHeld     : Option Nat
deriving DecidableEq, Repr

/-- A job that strikes nothing: MOVE, RETURN, FEED, HOME or INIT (R87). -/
def Job.plain (kind : OrderKind) (target : Nat) (source : Source) (feed : Option Int) : Job :=
  { kind := kind, target := target, petal := none, second := none, energy := none, wheel := none, width := none,
    feed := feed, source := source, role := none, cell := none, link := none }

/-- After power-on: the INIT with serial 0 and target 120 stands in the queue, travel 120 and cost 1 (R88, R106, R114,
R115). -/
def Dispatch.powerOn : Dispatch :=
  { orders := [{ serial := 0, fetched := false, travel := 120, cost := 1, job := Job.plain .init 120 .automatic none }],
    counter := 1, state := .running, c := 0, offerable := false, homeInterval := 20, homeCount := 2000, homeDue := false,
    homeHeld := none }

/-! ## Energy meter (chapter 6) -/

/-- Impression levels (R112). -/
inductive Impression where
  | light | normal | heavy
deriving DecidableEq, Repr

/-- The energy meter (R110, R111). -/
structure Energy where
  level         : Nat
  capacity      : Nat
  cost1         : Nat
  cost2         : Nat
  cost3         : Nat
  cost4         : Nat
  surcharge     : Nat
  boost         : Nat
  refill        : Nat
  travelCharge  : Bool
  impression    : Impression
  refillRunning : Bool
deriving DecidableEq, Repr

/-- After power-on (the table at the head of chapter 6). -/
def Energy.powerOn : Energy :=
  { level := 96, capacity := 96, cost1 := 2, cost2 := 3, cost3 := 4, cost4 := 6, surcharge := 2, boost := 0, refill := 3,
    travelCharge := true, impression := .normal, refillRunning := true }

/-! ## Correction unit (chapter 7) -/

/-- A strike record (R121); `pending` is its state, LIFT PENDING or STANDING; `id` is the model's own
(notes/assumptions/20.md). -/
structure StrikeRecord where
  id       : Nat
  position : Nat
  petal    : Option Nat
  second   : Option Nat
  energy   : Option Nat
  wheel    : Option Nat
  role     : Option Role
  cell     : Option Nat
  serial   : Byte
  pending  : Bool
deriving DecidableEq, Repr

/-- The correction unit. -/
structure Correction where
  /-- Strike records, oldest first, at most 240, R121. -/
  memory     : List StrikeRecord
  /-- Orders of one correction waiting for room, R135. -/
  held       : List Job
  /-- Wrong-wheel mark, R141. -/
  wrongWheel : Option Byte
  nextRecord : Nat
deriving DecidableEq, Repr

/-- After power-on (R124). -/
def Correction.powerOn : Correction := { memory := [], held := [], wrongWheel := none, nextRecord := 0 }

/-! ## Spelling unit and dictionary port (chapter 8) -/

/-- Case patterns of a skip rule (R146). -/
inductive CasePattern where
  | any | allCapitals | initialCapital | mixed
deriving DecidableEq, Repr

/-- A skip rule (R146). -/
structure SkipRule where
  enabled : Bool
  minLen  : Nat
  maxLen  : Nat
  pattern : CasePattern
  invert  : Bool
deriving DecidableEq, Repr

/-- A ticket record (R148). -/
structure TicketRecord where
  number    : Byte
  word      : List Code
  source    : Stream
  cancelled : Bool
deriving DecidableEq, Repr

/-- A ticket of the spell queue, LOOKING UP or WAITING (R155). -/
structure SpellEntry where
  ticket  : Byte
  looking : Bool
deriving DecidableEq, Repr

/-- Dictionary states (R153). -/
inductive DictState where
  | off | readingHeader | available | unavailable
deriving DecidableEq, Repr

/-- Unknown-word policies (R161). -/
inductive UnknownPolicy where
  | ignore | signal | hold
deriving DecidableEq, Repr

/-- Port rates (R152). -/
inductive PortRate where
  | khz100 | khz400 | khz1000
deriving DecidableEq, Repr

/-- Progress inside an entry of a bucket body (R157): its length, the codes read, and whether it was found smaller. -/
structure EntryProgress where
  length  : Nat
  done    : Nat
  smaller : Bool
deriving DecidableEq, Repr

/-- Progress of a bucket body (R157): bytes of the body not yet read, and the entry being read. -/
structure BodyProgress where
  left  : Nat
  entry : Option EntryProgress
deriving DecidableEq, Repr

/-- What a transfer is for (R153, R156, R157). A body transfer keeps the folded word it compares with, so that it runs to the
end it would have had when SOFT RESTART or a cancellation has discarded the ticket record (R159, R165). -/
inductive TransferKind where
  | header
  | directory (ticket : Byte) (bucket : Nat)
  | body (ticket : Byte) (word : List Code) (progress : BodyProgress)
deriving DecidableEq, Repr

/-- A transfer in progress on the dictionary port (R152). `discard`: its result will be discarded (R154, R165). -/
structure Transfer where
  kind    : TransferKind
  address : Nat
  length  : Nat
  rate    : PortRate
  device  : Nat
  discard : Bool
deriving DecidableEq, Repr

/-- The spelling unit and the dictionary port. -/
structure Spelling where
  openWord      : List Nat
  pendingApos   : Option Nat
  ticketCounter : Byte
  tickets       : List TicketRecord
  queue         : List SpellEntry
  userWords     : List (List Code)
  skipRules     : List SkipRule
  dictState     : DictState
  bucketCount   : Option Nat
  wordCount     : Option Nat
  overflow      : Nat
  kbUnknown     : UnknownPolicy
  ifUnknown     : UnknownPolicy
  enable        : Bool
  rate          : PortRate
  device        : Nat
  port          : Option Transfer
deriving DecidableEq, Repr

/-- The header transfer: 8 bytes from address 0 (R153). -/
def Transfer.header (rate : PortRate) (device : Nat) : Transfer :=
  { kind := .header, address := 0, length := 8, rate := rate, device := device, discard := false }

/-- After power-on (the table at the head of chapter 8); the header transfer has begun (R165). -/
def Spelling.powerOn : Spelling :=
  { openWord := [], pendingApos := none, ticketCounter := 0, tickets := [], queue := [], userWords := [],
    skipRules := { enabled := true, minLen := 2, maxLen := 24, pattern := .allCapitals, invert := false } ::
      List.replicate 3 { enabled := false, minLen := 1, maxLen := 24, pattern := .any, invert := false },
    dictState := .readingHeader, bucketCount := none, wordCount := none, overflow := 0, kbUnknown := .signal,
    ifUnknown := .ignore, enable := true, rate := .khz100, device := 0x54, port := some (Transfer.header .khz100 0x54) }

/-! ## Display unit (chapter 9) -/

/-- A message slot that is not empty (R173); the times are tenths of a second. -/
structure Message where
  codes     : List Code
  duration  : Nat
  remaining : Nat
deriving DecidableEq, Repr

/-- Transfer states of the display port (R176, R177). -/
inductive DisplayPhase where
  | idle | sending | retryWait
deriving DecidableEq, Repr

/-- The frame in transfer: its 40 bytes and the index of the next one (R176). -/
structure Frame where
  bytes : List Byte
  next  : Nat
deriving DecidableEq, Repr

/-- The display unit and the display port. -/
structure Display where
  /-- Window start, R170. -/
  ws         : Nat
  kbSlot     : Option Message
  ifSlot     : Option Message
  dirty      : Bool
  phase      : DisplayPhase
  frame      : Option Frame
  /-- Busy wait timer running, R177. -/
  busyWait   : Bool
  /-- Retry timer running, R178. -/
  retryTimer : Bool
  /-- Level of DBUSY as last seen, R177. -/
  dbusy      : Bool
  /-- Last byte strobed on DD0 to DD7. -/
  data       : Option Byte
deriving DecidableEq, Repr

/-- After power-on (R179); `dbusy` is the level of the pin. -/
def Display.powerOn (dbusy : Bool) : Display :=
  { ws := 0, kbSlot := none, ifSlot := none, dirty := true, phase := .idle, frame := none, busyWait := false,
    retryTimer := false, dbusy := dbusy, data := none }

/-! ## Sense and signal block (chapter 10) -/

/-- Filtered levels (R180). -/
inductive Level where
  | unsettled | negated | asserted
deriving DecidableEq, Repr

/-- A sense input: the raw level at the pin, the filtered level, the filter timer (`none` stopped, else the milliseconds it
was started from) and the change latch (R180, R181). -/
structure Sense where
  raw   : Bool
  level : Level
  timer : Option Nat
  latch : Bool
deriving DecidableEq, Repr

/-- Lamp functions (R182). -/
inductive LampFunction where
  | manual | interfaceHold | halted | spellPending | supplyLow
deriving DecidableEq, Repr

/-- A lamp's function and manual state (R182). -/
structure Lamp where
  function : LampFunction
  manual   : Bool
deriving DecidableEq, Repr

/-- Beeper patterns (R183). -/
inductive Pattern where
  | short | double | long
deriving DecidableEq, Repr

/-- A pattern being sounded: which period of it (0 on; for DOUBLE, 1 off and 2 on) and its tone (R183). -/
structure Sounding where
  pattern : Pattern
  period  : Nat
  tone    : Nat
deriving DecidableEq, Repr

/-- The sense and signal block. -/
structure Signals where
  cover      : Sense
  paper      : Sense
  ribbon     : Sense
  tape       : Sense
  filterTime : Nat
  lamps      : List Lamp
  /-- `none` is IDLE. -/
  beeper     : Option Sounding
  tone       : Nat
deriving DecidableEq, Repr

/-- A sense input after power-on: UNSETTLED, its timer started (R180); `raw` is the level of the pin. -/
def Sense.powerOn (raw : Bool) : Sense := { raw := raw, level := .unsettled, timer := some 8, latch := false }

/-- After power-on (the table at the head of chapter 10), with the four pins at the given levels. -/
def Signals.powerOn (cover paper ribbon tape : Bool) : Signals :=
  { cover := Sense.powerOn cover, paper := Sense.powerOn paper, ribbon := Sense.powerOn ribbon, tape := Sense.powerOn tape,
    filterTime := 8, lamps := [⟨.manual, false⟩, ⟨.interfaceHold, false⟩, ⟨.halted, false⟩, ⟨.supplyLow, false⟩],
    beeper := none, tone := 20 }

/-! ## Service block (chapter 10) -/

/-- Measures of a usage counter (R187). -/
inductive Measure where
  | orders | steps | tokens
deriving DecidableEq, Repr

/-- A usage counter (R187); in the masks and matches bit n stands for the order kind or the source numbered n (R203). -/
structure Counter where
  value       : Nat
  overflow    : Bool
  measure     : Measure
  kindMask    : Byte
  kindMatch   : Byte
  sourceMask  : Byte
  sourceMatch : Byte
deriving DecidableEq, Repr

/-- The service block. -/
structure Service where
  ribbon          : Nat
  ribbonThreshold : Nat
  tape            : Nat
  tapeThreshold   : Nat
  counters        : List Counter
  frozen          : Bool
  stepping        : Bool
  credit          : Bool
deriving DecidableEq, Repr

/-- After power-on (R185, R189, R190): the counters of R189's table. -/
def Service.powerOn : Service :=
  { ribbon := 16777215, ribbonThreshold := 0, tape := 65535, tapeThreshold := 0,
    counters := [⟨0, false, .orders, 0x01, 0x01, 0, 0⟩, ⟨0, false, .orders, 0x02, 0x02, 0, 0⟩,
      ⟨0, false, .steps, 0, 0, 0, 0⟩, ⟨0, false, .tokens, 0, 0, 0, 0⟩],
    frozen := false, stepping := false, credit := false }

/-! ## Station links (chapter 11) -/

/-- Status codes (R197), in the order of their numbers (R203); the last two are statuses of the ANSWER frame alone. -/
inductive Status where
  | ok | clamped | partial_ | full | notPermitted | badRequest | badValue | stale | notNow | none_ | pending | empty
deriving DecidableEq, Repr

/-- An answer: a status code and a payload (R195). -/
structure Answer where
  status  : Status
  payload : List Byte
deriving DecidableEq, Repr

/-- The answer buffer of a link (R195, R196). -/
inductive AnswerBuffer where
  | empty
  | busy
  | held (answer : Answer)
deriving DecidableEq, Repr

/-- A request as the receive buffer holds it (R193). -/
structure Request where
  code    : Byte
  payload : List Byte
deriving DecidableEq, Repr

/-- A link port: receive buffer, answer buffer, overrun count (R193 to R196). `sdo` records the bytes the link's last ANSWER
frame put on SDO, none since the fall of RESET: a record and no level, since no frame is open between commands and SDO is
driven within a frame alone (R192; notes/assumptions/6.md). -/
structure Link where
  receive  : Option Request
  answer   : AnswerBuffer
  overruns : Nat
  sdo      : List Byte
deriving DecidableEq, Repr

/-- The three link ports, with `occupied`, the model's own: the part is at work when a request frame ends, so that its request
stays in the receive buffer, the answer buffer BUSY, until the part rests (R195; DESIGN CHOICE, notes/assumptions/1.md). -/
structure Links where
  keyboard  : Link
  mechanism : Link
  interface : Link
  occupied  : Bool
deriving DecidableEq, Repr

/-- A link port after power-on. -/
def Link.powerOn : Link := { receive := none, answer := .empty, overruns := 0, sdo := [] }

/-- The link ports after power-on. -/
def Links.powerOn : Links :=
  { keyboard := Link.powerOn, mechanism := Link.powerOn, interface := Link.powerOn, occupied := false }

/-! ## Notice unit (chapter 11) -/

/-- The 17 notice kinds, in the order of their numbers (R199). -/
inductive NoticeKind where
  | wheelChanged | noWheelTable | dispatchHalted | senseChange | cannotLift | unknownWord | spellUnavailable
  | justifyFailed | refusedCharacters | divertedKeys | streamRoom | holdLapsed | supplyLow | displayFault | linkError
  | ordersWaiting | skippedCharacters
deriving DecidableEq, Repr

/-- The number of a notice kind, 1 to 17 (R199). -/
def NoticeKind.number : NoticeKind → Nat
  | .wheelChanged => 1
  | .noWheelTable => 2
  | .dispatchHalted => 3
  | .senseChange => 4
  | .cannotLift => 5
  | .unknownWord => 6
  | .spellUnavailable => 7
  | .justifyFailed => 8
  | .refusedCharacters => 9
  | .divertedKeys => 10
  | .streamRoom => 11
  | .holdLapsed => 12
  | .supplyLow => 13
  | .displayFault => 14
  | .linkError => 15
  | .ordersWaiting => 16
  | .skippedCharacters => 17

/-- A notice record: kind, occurrence count from 1 to 15, latest detail (R199). -/
structure Notice where
  kind   : NoticeKind
  count  : Nat
  detail : List Byte
deriving DecidableEq, Repr

/-- A station's notices: its pending map, held in ascending order of kind number, and its current notice (R199, R200). -/
structure NoticeBoard where
  pending : List Notice
  current : Option Notice
deriving DecidableEq, Repr

/-- The route of a kind (to which stations) and its priority at each station (R199, R201). -/
structure Route where
  keyboard    : Bool
  mechanism   : Bool
  interface   : Bool
  kbPriority  : Nat
  mechPriority : Nat
  ifPriority  : Nat
deriving DecidableEq, Repr

/-- The notice unit. -/
structure Notices where
  keyboard  : NoticeBoard
  mechanism : NoticeBoard
  interface : NoticeBoard
  /-- Routes of kinds 1 to 17, in that order. -/
  routes    : List Route
deriving DecidableEq, Repr

/-- A route with one default priority at every station (R199). -/
def Route.default (k m i : Bool) (priority : Nat) : Route := ⟨k, m, i, priority, priority, priority⟩

/-- The default routes and priorities (R199); a direct kind's route names no station. -/
def defaultRoutes : List Route :=
  [Route.default true false true 9, Route.default true false false 11, Route.default true false true 14,
   Route.default true true false 12, Route.default true false false 10, Route.default false false false 7,
   Route.default true false false 6, Route.default true false false 4, Route.default false false false 5,
   Route.default false false false 8, Route.default false false false 8, Route.default true false true 9,
   Route.default true false false 6, Route.default true false false 3, Route.default false false false 13,
   Route.default false true false 10, Route.default true false false 5]

/-- An empty pending map and no current notice. -/
def NoticeBoard.clear : NoticeBoard := { pending := [], current := none }

/-- After power-on (R199, R200). -/
def Notices.powerOn : Notices :=
  { keyboard := NoticeBoard.clear, mechanism := NoticeBoard.clear, interface := NoticeBoard.clear, routes := defaultRoutes }

end Sys2Proof.Machine
end

