-- ==== Sys2Proof/Machine/State.lean ====
section
/-! DEFINITION. The state of the part, the reasons a step could stop, and the state after reset. -/

namespace Sys2Proof.Machine

/-- The manual names no fault that stops the part (INVENTORY.md, Faults): no meaning raises one, and the type is empty.
Safe: an empty type hides no outcome. -/
inductive Fault : Type
deriving DecidableEq, Repr

/-- Refusals. -/
inductive Refusal where
  /-- Raised only by an arm of exec whose row has no meaning in the model. Safe: the machine stops. No arm raises it. -/
  | notModelled (mnemonic : String)
deriving DecidableEq, Repr

/-- The whole part, block by block (00_scope.md 1.1), with the commands that wait. -/
structure State where
  /-- Commands waiting, the front first (the model's own). -/
  pending    : List Instr
  /-- The RESET input is held low, R202. -/
  resetHeld  : Bool
  wheels     : WheelStore
  streams    : Streams
  settings   : Settings
  lines      : LineStore
  composer   : Composer
  dispatch   : Dispatch
  energy     : Energy
  correction : Correction
  spelling   : Spelling
  display    : Display
  signals    : Signals
  service    : Service
  links      : Links
  notices    : Notices
deriving DecidableEq, Repr

/-- The state after power-on of every block (R202), with a queue of commands and the levels of the part's input pins, which
power does not change. -/
def State.powerOn (pending : List Instr) (cover paper ribbon tape dbusy : Bool) : State :=
  { pending := pending, resetHeld := false, wheels := WheelStore.powerOn, streams := Streams.powerOn,
    settings := Settings.powerOn, lines := LineStore.powerOn, composer := Composer.powerOn, dispatch := Dispatch.powerOn,
    energy := Energy.powerOn, correction := Correction.powerOn, spelling := Spelling.powerOn,
    display := Display.powerOn dbusy, signals := Signals.powerOn cover paper ribbon tape, service := Service.powerOn,
    links := Links.powerOn, notices := Notices.powerOn }

/-- The machine right after reset: power-on values, no command waiting, every input pin low (DESIGN CHOICE for the pins:
notes/assumptions/7.md). -/
def State.reset : State := State.powerOn [] false false false false false

end Sys2Proof.Machine
end

