-- ==== Sys2Proof/Machine/Operands.lean ====
section
/-! DEFINITION. The operand forms of the requests: numbers, enumerations and presence fields (R203), and the lists of
capacities and codes the rules fix. -/

namespace Sys2Proof.Machine

/-! ## Numbers (R203: most significant byte first) -/

/-- The number that bytes spell, most significant byte first. -/
def num (bs : List Byte) : Nat := bs.foldl (fun n b => n * 256 + b.toNat) 0

/-- A number in `k` bytes, most significant byte first. -/
def bytesOf : Nat → Nat → List Byte
  | 0, _ => []
  | k + 1, n => bytesOf k (n / 256) ++ [byte n]

/-- A value brought to the nearest end of its range. -/
def clamp (lo hi n : Nat) : Nat := max lo (min hi n)

/-- A byte field that may be absent: 0xFF when it is (R203). -/
def absentByte : Option Nat → Byte
  | some n => byte n
  | none => 0xFF

/-- 1 for yes, 0 for no. -/
def bit (b : Bool) : Nat := if b then 1 else 0

/-- The number that bits spell, most significant first. -/
def bitsNumber (bs : List Bool) : Nat := bs.foldl (fun n b => n * 2 + bit b) 0

/-- The bits of a byte on a serial line, most significant first (R152, R192). -/
def byteBits (b : Byte) : List Bool := (List.range 8).map fun i => b.getLsbD (7 - i)

/-- A byte of which only the bits outside `mask` have a meaning; those in `mask` are free
(notes/assumptions/14.md). `place` numbers the byte's place among the formats. -/
def withUnassigned (place : Nat) (mask : Byte) (b : Byte) : Byte := (b &&& ~~~mask) ||| (Config.unassigned place &&& mask)

/-! ## Presence fields (R203) -/

/-- The fields of a setting request after its presence field, from field `n` on, given their sizes: `none` when the length
is not the one the presence field declares. -/
def takeFields : List Nat → Nat → Nat → List Byte → Option (List (Option Nat))
  | [], _, _, [] => some []
  | [], _, _, _ :: _ => none
  | k :: ks, n, presence, bs =>
    if presence.testBit n then
      if bs.length < k then none
      else (takeFields ks (n + 1) presence (bs.drop k)).map (some (num (bs.take k)) :: ·)
    else (takeFields ks (n + 1) presence bs).map (none :: ·)

/-- The payload of a setting request: a two-byte presence field, then the present fields (R203). `none` is BAD REQUEST: too
short, a presence bit above the last field, or a length other than declared. -/
def settingFields (sizes : List Nat) (payload : List Byte) : Option (List (Option Nat)) :=
  if payload.length < 2 then none
  else if 2 ^ sizes.length ≤ num (payload.take 2) then none
  else takeFields sizes 0 (num (payload.take 2)) (payload.drop 2)

/-- Field `i` of the fields read. -/
def field (fs : List (Option Nat)) (i : Nat) : Option Nat := fs.getD i none

/-- The value a field would leave: its own when present, the old one when absent. -/
def fieldOr (fs : List (Option Nat)) (i : Nat) (old : Nat) : Nat := (field fs i).getD old

/-- An enumerated field: the old value when absent, `none` when the number names no value (BAD VALUE). -/
def enumOr {α : Type} (fs : List (Option Nat)) (i : Nat) (ofNumber : Nat → Option α) (old : α) : Option α :=
  match field fs i with
  | none => some old
  | some n => ofNumber n

/-- Whether a field is present and outside its range, so that it is brought into it (CLAMPED). -/
def outside (fs : List (Option Nat)) (i lo hi : Nat) : Bool :=
  match field fs i with
  | none => false
  | some n => n < lo || hi < n

/-- A clamped field: its value brought into range when present, the old value when absent. -/
def clampOr (fs : List (Option Nat)) (i lo hi old : Nat) : Nat :=
  match field fs i with
  | none => old
  | some n => clamp lo hi n

/-- The presence field with every one of `n` fields present. -/
def allPresent (n : Nat) : List Byte := bytesOf 2 (2 ^ n - 1)

/-! ## Enumerations (R203) -/

/-- no or OFF is 0, yes or ON is 1. -/
def boolOf : Nat → Option Bool
  | 0 => some false
  | 1 => some true
  | _ => none

/-- Character classes. -/
def CharClass.ofNumber : Nat → Option CharClass
  | 0 => some .control | 1 => some .space | 2 => some .letter | 3 => some .digit | 4 => some .apostrophe
  | 5 => some .hyphen | 6 => some .punct | _ => none

/-- Character classes. -/
def CharClass.number : CharClass → Nat
  | .control => 0 | .space => 1 | .letter => 2 | .digit => 3 | .apostrophe => 4 | .hyphen => 5 | .punct => 6

/-- Pitch setting and native pitch. -/
def Pitch.ofNumber : Nat → Option Pitch
  | 0 => some .p10 | 1 => some .p12 | 2 => some .p15 | 3 => some .ps | _ => none

/-- Pitch setting and native pitch. -/
def Pitch.number : Pitch → Nat
  | .p10 => 0 | .p12 => 1 | .p15 => 2 | .ps => 3

/-- Kinds of wheel entry (R203, the entry layout). -/
def EntryKind.ofNumber : Nat → Option EntryKind
  | 0 => some .spacing | 1 => some .nonspacing | 2 => some .composite | _ => none

/-- Kinds of wheel entry. -/
def EntryKind.number : EntryKind → Nat
  | .spacing => 0 | .nonspacing => 1 | .composite => 2

/-- Mode setting and composition. -/
def Mode.ofNumber : Nat → Option Mode
  | 0 => some .direct | 1 => some .word | 2 => some .line | _ => none

/-- Mode setting and composition. -/
def Mode.number : Mode → Nat
  | .direct => 0 | .word => 1 | .line => 2

/-- The layout setting is LEFT or JUSTIFY (R24). -/
def layoutSettingOf : Nat → Option Layout
  | 0 => some .left | 1 => some .justify | _ => none

/-- Layouts. -/
def Layout.number : Layout → Nat
  | .left => 0 | .justify => 1 | .centre => 2 | .flush => 3

/-- Non-holder policy of KEYBOARD (R47). -/
def kbPolicyOf : Nat → Option Policy
  | 0 => some .wait | 1 => some .refuse | 2 => some .divert | _ => none

/-- Non-holder policy of INTERFACE, which may not be DIVERT (R47). -/
def ifPolicyOf : Nat → Option Policy
  | 0 => some .wait | 1 => some .refuse | _ => none

/-- Non-holder policies. -/
def Policy.number : Policy → Nat
  | .wait => 0 | .refuse => 1 | .divert => 2

/-- The four room thresholds (R56). -/
def thresholdOf (n : Nat) : Option Nat := if n = 32 ∨ n = 64 ∨ n = 128 ∨ n = 192 then some n else none

/-- Unknown-word policies. -/
def UnknownPolicy.ofNumber : Nat → Option UnknownPolicy
  | 0 => some .ignore | 1 => some .signal | 2 => some .hold | _ => none

/-- Unknown-word policies. -/
def UnknownPolicy.number : UnknownPolicy → Nat
  | .ignore => 0 | .signal => 1 | .hold => 2

/-- Impression levels. -/
def Impression.ofNumber : Nat → Option Impression
  | 0 => some .light | 1 => some .normal | 2 => some .heavy | _ => none

/-- Impression levels. -/
def Impression.number : Impression → Nat
  | .light => 0 | .normal => 1 | .heavy => 2

/-- Port rates. -/
def PortRate.ofNumber : Nat → Option PortRate
  | 0 => some .khz100 | 1 => some .khz400 | 2 => some .khz1000 | _ => none

/-- Port rates. -/
def PortRate.number : PortRate → Nat
  | .khz100 => 0 | .khz400 => 1 | .khz1000 => 2

/-- Dictionary device addresses (R154). -/
def deviceOf (n : Nat) : Option Nat := if 0x08 ≤ n ∧ n ≤ 0x77 then some n else none

/-- Case patterns. -/
def CasePattern.ofNumber : Nat → Option CasePattern
  | 0 => some .any | 1 => some .allCapitals | 2 => some .initialCapital | 3 => some .mixed | _ => none

/-- Case patterns. -/
def CasePattern.number : CasePattern → Nat
  | .any => 0 | .allCapitals => 1 | .initialCapital => 2 | .mixed => 3

/-- Lamp functions. -/
def LampFunction.ofNumber : Nat → Option LampFunction
  | 0 => some .manual | 1 => some .interfaceHold | 2 => some .halted | 3 => some .spellPending | 4 => some .supplyLow
  | _ => none

/-- Lamp functions. -/
def LampFunction.number : LampFunction → Nat
  | .manual => 0 | .interfaceHold => 1 | .halted => 2 | .spellPending => 3 | .supplyLow => 4

/-- Beep patterns. -/
def Pattern.ofNumber : Nat → Option Pattern
  | 0 => some .short | 1 => some .double | 2 => some .long | _ => none

/-- Measures. -/
def Measure.ofNumber : Nat → Option Measure
  | 0 => some .orders | 1 => some .steps | 2 => some .tokens | _ => none

/-- Measures. -/
def Measure.number : Measure → Nat
  | .orders => 0 | .steps => 1 | .tokens => 2

/-- Order kinds. -/
def OrderKind.number : OrderKind → Nat
  | .strike => 0 | .lift => 1 | .move => 2 | .ret => 3 | .feed => 4 | .home => 5 | .init => 6

/-- Sources. -/
def Source.number : Source → Nat
  | .keyboard => 0 | .interface => 1 | .correction => 2 | .automatic => 3

/-- Strike roles. -/
def Role.number : Role → Nat
  | .main => 0 | .second => 1 | .bold => 2 | .underline => 3

/-- Cell states. -/
def CellState.number : CellState → Nat
  | .held => 0 | .spellHold => 1 | .released => 2 | .printed => 3 | .lifting => 4

/-- Spell marks. -/
def SpellMark.number : SpellMark → Nat
  | .none => 0 | .checking => 1 | .known => 2 | .unknown => 3 | .accepted => 4 | .skipped => 5 | .unchecked => 6

/-- Page hold. -/
def PageHold.number : PageHold → Nat
  | .off => 0 | .waiting => 1 | .on => 2

/-- Line holder. -/
def holderNumber : Option Stream → Nat
  | none => 0 | some .keyboard => 1 | some .interface => 2

/-- Dispatch states. -/
def DispatchState.number : DispatchState → Nat
  | .running => 0 | .halted => 1

/-- Dictionary states. -/
def DictState.number : DictState → Nat
  | .off => 0 | .readingHeader => 1 | .available => 2 | .unavailable => 3

/-- Display transfer states. -/
def DisplayPhase.number : DisplayPhase → Nat
  | .idle => 0 | .sending => 1 | .retryWait => 2

/-- Wheel slot states. -/
def Slot.number : Slot → Nat
  | .empty => 0 | .loading _ _ _ => 1 | .loaded _ _ => 2

/-- Sense levels, as notice kind 4 and the status record number them (R203). -/
def Level.number : Level → Nat
  | .unsettled => 0 | .negated => 1 | .asserted => 2

/-- The number of a status code (R203). -/
def Status.number : Status → Nat
  | .ok => 0 | .clamped => 1 | .partial_ => 2 | .full => 3 | .notPermitted => 4 | .badRequest => 5 | .badValue => 6
  | .stale => 7 | .notNow => 8 | .none_ => 9 | .pending => 10 | .empty => 11

/-! ## Requests and permissions (R197, R203) -/

/-- The requests of R203's table of codes. -/
inductive ReqKind where
  | keys | text | holdLines | releaseLines | readDiverted | takeLine | setStreams | setComposition | setTab | clearTab
  | clearTabs | setClasses | loadWheelTable | eraseWheelTable | wheelReport | fetchOrder | orderDone | resume | discard
  | forceHome | setHomeInterval | cancelLifts | readNextOrder | setEnergy | setSpelling | setSkipRule | addWord
  | removeWord | spellAnswer | showMessage | clearMessage | setSignals | setLamps | clearLamps | beep | supplyNew
  | setCounter | counters | setStepping | step | get | readStatus | readLine | takeNotice | readNotice | setNoticeRoute
  | softRestart
deriving DecidableEq, Repr

/-- The request a code names (R203); 0xFF opens an ANSWER frame and names none. -/
def ReqKind.ofCode : Nat → Option ReqKind
  | 0x01 => some .keys | 0x02 => some .text | 0x03 => some .holdLines | 0x04 => some .releaseLines
  | 0x05 => some .readDiverted | 0x06 => some .takeLine | 0x07 => some .setStreams | 0x08 => some .setComposition
  | 0x09 => some .setTab | 0x0A => some .clearTab | 0x0B => some .clearTabs | 0x0C => some .setClasses
  | 0x0D => some .loadWheelTable | 0x0E => some .eraseWheelTable | 0x0F => some .wheelReport
  | 0x10 => some .fetchOrder | 0x11 => some .orderDone | 0x12 => some .resume | 0x13 => some .discard
  | 0x14 => some .forceHome | 0x15 => some .setHomeInterval | 0x16 => some .cancelLifts | 0x17 => some .readNextOrder
  | 0x18 => some .setEnergy | 0x19 => some .setSpelling | 0x1A => some .setSkipRule | 0x1B => some .addWord
  | 0x1C => some .removeWord | 0x1D => some .spellAnswer | 0x20 => some .showMessage | 0x21 => some .clearMessage
  | 0x22 => some .setSignals | 0x23 => some .setLamps | 0x24 => some .clearLamps | 0x25 => some .beep
  | 0x26 => some .supplyNew | 0x27 => some .setCounter | 0x28 => some .counters | 0x29 => some .setStepping
  | 0x2A => some .step | 0x30 => some .get | 0x31 => some .readStatus | 0x32 => some .readLine
  | 0x33 => some .takeNotice | 0x34 => some .readNotice | 0x35 => some .setNoticeRoute | 0x3E => some .softRestart
  | _ => none

/-- The code of a request (R203). -/
def ReqKind.code : ReqKind → Byte
  | .keys => 0x01 | .text => 0x02 | .holdLines => 0x03 | .releaseLines => 0x04 | .readDiverted => 0x05 | .takeLine => 0x06
  | .setStreams => 0x07 | .setComposition => 0x08 | .setTab => 0x09 | .clearTab => 0x0A | .clearTabs => 0x0B
  | .setClasses => 0x0C | .loadWheelTable => 0x0D | .eraseWheelTable => 0x0E | .wheelReport => 0x0F | .fetchOrder => 0x10
  | .orderDone => 0x11 | .resume => 0x12 | .discard => 0x13 | .forceHome => 0x14 | .setHomeInterval => 0x15
  | .cancelLifts => 0x16 | .readNextOrder => 0x17 | .setEnergy => 0x18 | .setSpelling => 0x19 | .setSkipRule => 0x1A
  | .addWord => 0x1B | .removeWord => 0x1C | .spellAnswer => 0x1D | .showMessage => 0x20 | .clearMessage => 0x21
  | .setSignals => 0x22 | .setLamps => 0x23 | .clearLamps => 0x24 | .beep => 0x25 | .supplyNew => 0x26
  | .setCounter => 0x27 | .counters => 0x28 | .setStepping => 0x29 | .step => 0x2A | .get => 0x30 | .readStatus => 0x31
  | .readLine => 0x32 | .takeNotice => 0x33 | .readNotice => 0x34 | .setNoticeRoute => 0x35 | .softRestart => 0x3E

/-- Whether a request is permitted to a station (R197). -/
def permitted : Station → ReqKind → Bool
  | .keyboard, .fetchOrder | .keyboard, .orderDone | .keyboard, .wheelReport | .keyboard, .text
  | .keyboard, .holdLines | .keyboard, .releaseLines | .keyboard, .readDiverted => false
  | .keyboard, _ => true
  | .interface, .text | .interface, .holdLines | .interface, .releaseLines | .interface, .readDiverted
  | .interface, .showMessage | .interface, .clearMessage | .interface, .get | .interface, .readStatus
  | .interface, .readLine | .interface, .readNextOrder | .interface, .takeNotice => true
  | .interface, _ => false
  | .mechanism, .fetchOrder | .mechanism, .orderDone | .mechanism, .wheelReport | .mechanism, .get
  | .mechanism, .readStatus | .mechanism, .readNextOrder | .mechanism, .takeNotice => true
  | .mechanism, _ => false

/-! ## Stream functions (R40) -/

/-- Whether a code is printable (R1). -/
def printable (c : Code) : Bool := 0x20 ≤ c.toNat

/-- SPACE (00_scope.md 1.3). -/
abbrev spaceCode : Code := 0x20

/-- Whether a code is admissible from a source (R40). -/
def admissible (src : Stream) (c : Code) : Bool :=
  printable c || (0x08 ≤ c.toNat && c.toNat ≤ 0x0B) || (0x0D ≤ c.toNat && c.toNat ≤ 0x13) || c = 0x1C || c = 0x1D ||
    (src = .keyboard && ((0x14 ≤ c.toNat && c.toNat ≤ 0x1B) || c = 0x1E))

/-- The station of a stream's source (R42). -/
def stationOf : Stream → Station
  | .keyboard => .keyboard
  | .interface => .interface

/-- A stream as a source of orders (00_scope.md 1.3). -/
def sourceOf : Stream → Source
  | .keyboard => .keyboard
  | .interface => .interface

/-! ## Limits -/

/-- The last position (R18). -/
abbrev lastPosition : Nat := 1559

/-- Distance between two positions (R114). -/
def distance (a b : Nat) : Nat := (a - b) + (b - a)

end Sys2Proof.Machine
end

