-- ==== Sys2Proof/Machine/Flags.lean ====
section
/-! DEFINITION. What the part derives from its state: mounted table, effective pitch, widths, strikes, gates, words of a LINE
line, lamps, segments, and the items the display shows. -/

namespace Sys2Proof.Machine

/-! ## The mounted table and the effective pitch (R11, R17) -/

/-- A LOADED wheel table. -/
structure Table where
  header  : WheelHeader
  entries : List WheelEntry
deriving DecidableEq, Repr

/-- The table of a slot that is LOADED with a wheel ID (R11). -/
def Slot.tableFor (id : Nat) : Slot → Option Table
  | .loaded h es => if h.wheelId = id then some ⟨h, es⟩ else none
  | _ => none

/-- The LOADED slot whose wheel ID is `id` (R11). -/
def tableOf (slots : List Slot) (id : Nat) : Option Table := slots.findSome? (·.tableFor id)

/-- The mounted table; `none` is NO TABLE (R11). -/
def mountedTable (s : State) : Option Table := tableOf s.wheels.slots s.wheels.mounted

/-- The effective pitch (R17). -/
def effectivePitch (s : State) : Pitch :=
  match s.settings.pitch with
  | .ps => match mountedTable s with
    | some t => t.header.native
    | none => .ps
  | p => p

/-! ## Characters (R2, R10, R19) -/

/-- The class table's entry of a code (R2). -/
def classEntry (s : State) (c : Code) : ClassEntry := s.wheels.classes.getD c.toNat ⟨.punct, c⟩

/-- The class of a code (R2). -/
def classOf (s : State) (c : Code) : CharClass := (classEntry s c).cls

/-- A capital is a LETTER whose fold code differs from its own (R2). -/
def isCapital (s : State) (c : Code) : Bool := classOf s c = .letter && (classEntry s c).fold ≠ c

/-- The fold of a code in a folded word (R147): the fold code of a LETTER, and 0x27 for an APOSTROPHE, whatever code bears that
class. A code to which SET CLASSES has given another class since it was typed stays itself (notes/assumptions/41.md). -/
def foldCode (s : State) (c : Code) : Code :=
  match classOf s c with
  | .letter => (classEntry s c).fold
  | .apostrophe => 0x27
  | _ => c

/-- The placeholder entry "not on wheel" of a header (R6). -/
def placeholder (h : WheelHeader) : WheelEntry :=
  { petal := none, width := h.space, energy := 2, kind := .spacing, second := none }

/-- A table's entry of a printable code. -/
def Table.entry (t : Table) (c : Code) : WheelEntry := t.entries.getD (c.toNat - 0x20) (placeholder t.header)

/-- Whether a code is on the wheel (R10): SPACE always is. -/
def Table.has (t : Table) (c : Code) : Bool := c = spaceCode || (t.entry c).petal.isSome

/-- The width of a code on the wheel, in steps (R19). -/
def Table.width (t : Table) (pitch : Pitch) (c : Code) : Nat :=
  let isSpace : Bool := c = spaceCode
  if !isSpace && (t.entry c).kind = .nonspacing then 0
  else match pitch with
    | .p10 => 12
    | .p12 => 10
    | .p15 => 8
    | .ps => (if isSpace then t.header.space else (t.entry c).width) * 2

/-- Width resolution (R20): `none` for a code not on the wheel. -/
def resolveWidth (t : Table) (pitch : Pitch) (c : Code) : Option Nat :=
  if t.has c then some (t.width pitch c) else none

/-- Whether a code's entry is COMPOSITE; SPACE uses no field of its entry (R5). -/
def Table.composite (t : Table) (c : Code) : Bool := c ≠ spaceCode && (t.entry c).kind = .composite

/-- Resolution of a code on the wheel for a strike role (R10): petal, second petal, energy class before impression.
`none` for the SECOND strike of an entry that is not COMPOSITE. -/
def Table.resolve (t : Table) (c : Code) (role : Role) : Option (Option Nat × Option Nat × Nat) :=
  let e := t.entry c
  match role with
  | .main => some (e.petal, none, e.energy)
  | .second => if t.composite c then some (e.second, none, e.energy) else none
  | .bold => some (e.petal, if t.composite c then e.second else none, e.energy)
  | .underline => some (some t.header.underscore, none, 1)

/-- The adjusted class (R112). -/
def adjustedClass : Impression → Nat → Nat
  | .light, n => max 1 (n - 1)
  | .normal, n => n
  | .heavy, n => min 4 (n + 1)

/-! ## Cells (R18, R21, R22) -/

/-- A cell's end (R18). -/
def Cell.stop (c : Cell) : Nat := c.start + c.width

/-- Whether a cell's span contains a position (R18). -/
def Cell.spans (c : Cell) (x : Nat) : Bool := c.start ≤ x && x < c.start + max c.width 1

/-- Whether two cells overlap (R18). -/
def Cell.overlaps (a b : Cell) : Bool :=
  a.start < b.start + max b.width 1 && b.start < a.start + max a.width 1

/-- A cell is held while it is HELD or SPELL HOLD (Law 8, R61). -/
def Cell.isHeld (c : Cell) : Bool := c.state = .held || c.state = .spellHold

/-- The strike point (R21). -/
def Cell.strikePoint (c : Cell) : Nat := c.start + c.width / 2

/-- Whether a strike role applies to a cell (R22). -/
def roleApplies (t : Table) (c : Cell) : Role → Bool
  | .main => c.code ≠ spaceCode
  | .second => t.composite c.code
  | .bold => c.bold && c.code ≠ spaceCode
  | .underline => c.underline && 0 < c.width

/-- Where a strike is made (R22). -/
def roleTarget (c : Cell) : Role → Nat
  | .bold => min (c.strikePoint + 1) lastPosition
  | _ => c.strikePoint

/-- The ribbon advance of a strike (R20). -/
def ribbonAdvance (c : Cell) : Nat := if c.width = 0 then 2 else c.width

/-- The STRIKE order of a cell for a role, resolved against a table (R10, R22, R87, R112). -/
def strikeJob (t : Table) (imp : Impression) (c : Cell) (role : Role) : Option Job :=
  (t.resolve c.code role).map fun r =>
    { kind := .strike, target := roleTarget c role, petal := r.1, second := r.2.1, energy := some (adjustedClass imp r.2.2),
      wheel := some t.header.wheelId, width := some (ribbonAdvance c), feed := none, source := sourceOf c.source,
      role := some role, cell := some c.id, link := none }

/-- The strikes of a cell, in their fixed order (R22); none for a code not on the wheel (R10). -/
def strikeJobs (t : Table) (imp : Impression) (c : Cell) : List Job :=
  if t.has c.code then
    ([.main, .second, .bold, .underline].filter (roleApplies t c)).filterMap (strikeJob t imp c)
  else []

/-- The cells of both line records (R59). -/
def allCells (s : State) : List Cell :=
  s.lines.current.cells ++ (match s.lines.outgoing with | some l => l.cells | none => [])

/-- The cell of an id. -/
def findCell (s : State) (id : Nat) : Option Cell := (allCells s).find? (·.id = id)

/-! ## The order queue (R89, R92) -/

/-- The head order: the oldest PENDING one (R89). -/
def headOrder (s : State) : Option Order := s.dispatch.orders.find? (!·.fetched)

/-- The number of FETCHED orders (R89). -/
def fetchedCount (s : State) : Nat := s.dispatch.orders.countP (·.fetched)

/-- Free places of the order queue (R89). -/
def freePlaces (s : State) : Nat := 32 - s.dispatch.orders.length

/-- The places that the composer, the correction unit and FORCE HOME may take: none while a due HOME is held, which has the
first claim on the next one (R107). -/
def places (s : State) : Nat := if s.dispatch.homeHeld.isSome then 0 else freePlaces s

/-- Whether the newest order is a PENDING MOVE, into which a MOVE merges (R69). -/
def tailIsMove (s : State) : Bool :=
  match s.dispatch.orders.getLast? with
  | some o => o.job.kind = .move && !o.fetched
  | none => false

/-- Whether a MOVE can be made: it merges or finds a place (R69). -/
def moveFits (s : State) : Bool := tailIsMove s || 1 ≤ places s

/-- A sense input reads as ASSERTED while ASSERTED or UNSETTLED (R180). -/
def Sense.asserted (x : Sense) : Bool := x.level ≠ .negated

/-- Gate reasons, in the order of their numbers (R203). -/
inductive GateReason where
  | empty | halted | windowFull | coverOpen | paperOut | ribbonEnd | tapeEnd | noTable | wrongWheel | energy | stepping
  | open_
deriving DecidableEq, Repr

/-- The number of a gate reason (R203). -/
def GateReason.number : GateReason → Nat
  | .empty => 0 | .halted => 1 | .windowFull => 2 | .coverOpen => 3 | .paperOut => 4 | .ribbonEnd => 5 | .tapeEnd => 6
  | .noTable => 7 | .wrongWheel => 8 | .energy => 9 | .stepping => 10 | .open_ => 11

/-- The first closed gate for a head order, or OPEN (R92). -/
def gate (s : State) (o : Order) : GateReason :=
  if s.dispatch.state ≠ .running then .halted
  else if 4 ≤ fetchedCount s then .windowFull
  else if s.signals.cover.asserted then .coverOpen
  else if (o.job.kind = .strike ∨ o.job.kind = .lift) ∧ s.signals.paper.asserted then .paperOut
  else if o.job.kind = .strike ∧ s.signals.ribbon.asserted then .ribbonEnd
  else if o.job.kind = .lift ∧ s.signals.tape.asserted then .tapeEnd
  else if (o.job.kind = .strike ∨ o.job.kind = .lift) ∧ (mountedTable s).isNone then .noTable
  else if o.job.kind = .lift ∧ o.job.wheel ≠ some s.wheels.mounted then .wrongWheel
  else if s.energy.level < o.cost then .energy
  else if s.service.stepping ∧ ¬ s.service.credit then .stepping
  else .open_

/-- Whether there is a head order and every gate is open (R92). -/
def isOfferable (s : State) : Bool :=
  match headOrder s with
  | some o => gate s o = .open_
  | none => false

/-! ## The hot zone (R25) -/

/-- P lies in the hot zone [M − width, M); a lower edge below 0 takes in every position left of M (R25). -/
def inHotZone (s : State) : Bool :=
  s.settings.right ≤ s.composer.p + s.settings.hotZone && s.composer.p < s.settings.right

/-- P is at or beyond M minus the hot-zone width (R71, auto return). -/
def pastHotZoneStart (s : State) : Bool := s.settings.right ≤ s.composer.p + s.settings.hotZone

/-- The overrun limit Q (R25). -/
def overrunLimit (s : State) : Nat := min (s.settings.right + 240) lastPosition

/-! ## Words of a LINE line (R145) -/

/-- A run being gathered: runs found (newest first), the letters and apostrophes of the open one (newest first), and a
pending apostrophe. -/
structure RunScan where
  done    : List (List Cell)
  open_   : List Cell
  pending : Option Cell

/-- Ends the open run, if any. -/
def RunScan.close (r : RunScan) : RunScan :=
  { done := if r.open_ = [] then r.done else r.open_.reverse :: r.done, open_ := [], pending := none }

/-- One cell of the line, by its class (R145): a cell of width 0 is passed over, a LETTER joins with a pending apostrophe,
an APOSTROPHE waits for a letter and ends the run when one is already waiting, any other cell and any OVERSTRIKE cell end
the run. -/
def RunScan.next (cls : Code → CharClass) (r : RunScan) (c : Cell) : RunScan :=
  if c.width = 0 then r
  else if cls c.code = .letter ∧ c.overstrike = false then
    { r with open_ := c :: (r.pending.toList ++ r.open_), pending := none }
  else if cls c.code = .apostrophe ∧ c.overstrike = false then
    match r.open_, r.pending with
    | [], _ => r
    | _ :: _, none => { r with pending := some c }
    | _ :: _, some _ => r.close
  else r.close

/-- The runs of a line, in text order (R145). -/
def runs (cls : Code → CharClass) (cells : List Cell) : List (List Cell) :=
  ((cells.foldl (RunScan.next cls) ⟨[], [], none⟩).close.done).reverse

/-- Whether a run touches the cursor: the cell directly before it or directly after it belongs to the run, cells of width 0
passed over (R145). -/
def touches (cells : List Cell) (cursor : Nat) (run : List Cell) : Bool :=
  let before := ((cells.take cursor).filter (0 < ·.width)).getLast?
  let after := ((cells.drop cursor).filter (0 < ·.width)).head?
  run.any fun c => before.any (·.id = c.id) || after.any (·.id = c.id)

/-- Whether the cells of a run already form one captured word (R145). A carried word of which a cell has come to width 0, or
from it, at the release forms none any more (notes/assumptions/53.md). -/
def isCaptured (cells run : List Cell) : Bool :=
  match run with
  | [] => true
  | c :: _ => match c.word with
    | none => false
    | some w => run.all (·.word = some w) && cells.countP (·.word = some w) = run.length

/-- Whether some run of the current line is not yet captured (R163). -/
def hasOpenRun (s : State) : Bool :=
  (runs (classOf s) s.lines.current.cells).any (!isCaptured s.lines.current.cells ·)

/-- The unknown-word policy of a source (R161). -/
def unknownPolicy (s : State) : Stream → UnknownPolicy
  | .keyboard => s.spelling.kbUnknown
  | .interface => s.spelling.ifUnknown

/-- The current line holds an UNKNOWN cell whose source's policy is HOLD (R163, step 1). -/
def refusesReturn (s : State) : Bool :=
  s.lines.current.cells.any fun c => c.mark = .unknown && unknownPolicy s c.source = .hold

/-- Some run is not yet captured or some word is CHECKING (R163, step 2). -/
def holdsReturn (s : State) : Bool :=
  hasOpenRun s || s.lines.current.cells.any (·.mark = .checking)

/-! ## Streams (R39, R44) -/

/-- A source's stream queue. -/
def queueOf (s : State) : Stream → List Code
  | .keyboard => s.streams.typeAhead
  | .interface => s.streams.interfaceQ

/-- A source's mode setting (R62). -/
def modeOf (s : State) : Stream → Mode
  | .keyboard => s.settings.kbMode
  | .interface => s.settings.ifMode

/-- The current line is free to a source (R44). -/
def freeTo (s : State) (src : Stream) : Bool :=
  s.streams.holder = some src || (s.streams.holder.isNone && s.lines.current.cells.isEmpty)

/-- The composition under which an entry of a source would be taken: the current line's, or the one the claim gives it
(R62, R65). -/
def compositionFor (s : State) (src : Stream) : Mode :=
  match s.streams.holder with
  | none => modeOf s src
  | some _ => s.lines.current.composition.getD (modeOf s src)

/-- An attribute state (R63). -/
def attrOf (s : State) : Stream → Attr
  | .keyboard => s.composer.kbAttr
  | .interface => s.composer.ifAttr

/-- The attribute state shown: the holder's, or KEYBOARD's while the holder is NONE (R63). -/
def shownAttr (s : State) : Attr := attrOf s (s.streams.holder.getD .keyboard)

/-- The composition shown: the current line's, or the keyboard's mode while it is absent (R62). -/
def shownMode (s : State) : Mode := s.lines.current.composition.getD s.settings.kbMode

/-- Free space of the interface stream queue (R56). -/
def interfaceSpace (s : State) : Nat := 256 - s.streams.interfaceQ.length

/-! ## Lamps and segments (R163, R172, R182) -/

/-- The current line is spell pending (R163). -/
def spellPending (s : State) : Bool :=
  s.lines.current.cells.any (·.state = .spellHold) ||
    (s.lines.current.composition = some .line &&
      (refusesReturn s ||
        (match s.streams.holder with
          | some h => (queueOf s h).head? = some 0x0D && holdsReturn s
          | none => false)))

/-- The ribbon is low by count or at its end (R172). -/
def ribbonLow (s : State) : Bool := s.service.ribbon ≤ s.service.ribbonThreshold || s.signals.ribbon.asserted

/-- The tape is low by count or at its end (R172). -/
def tapeLow (s : State) : Bool := s.service.tape ≤ s.service.tapeThreshold || s.signals.tape.asserted

/-- Whether a lamp's function calls for it (R182). -/
def lampCalled (s : State) (l : Lamp) : Bool :=
  match l.function with
  | .manual => l.manual
  | .interfaceHold => s.streams.holder = some .interface
  | .halted => s.dispatch.state = .halted
  | .spellPending => spellPending s
  | .supplyLow => ribbonLow s || tapeLow s

/-- The four lamp outputs; dark while RESET is held (R182, R202). -/
def lampOutputs (s : State) : List Bool := s.signals.lamps.map fun l => !s.resetHeld && lampCalled s l

/-- A station's notices (R199). -/
def boardOf (s : State) : Station → NoticeBoard
  | .keyboard => s.notices.keyboard
  | .mechanism => s.notices.mechanism
  | .interface => s.notices.interface

/-- The ATN outputs: asserted exactly when the station's map is not empty; negated while RESET is held (R199, R202). -/
def attention (s : State) (st : Station) : Bool := !s.resetHeld && !(boardOf s st).pending.isEmpty

/-- The 16 indicator segments, PITCH10 first (R172). -/
def segments (s : State) : List Bool :=
  [effectivePitch s = .p10, effectivePitch s = .p12, effectivePitch s = .p15, effectivePitch s = .ps,
   (shownAttr s).bold, (shownAttr s).underline, s.settings.layout = .justify, shownMode s = .line, shownMode s = .word,
   s.streams.holder = some .interface, s.lines.current.cells.any (·.mark = .unknown), s.dispatch.state = .halted,
   ribbonLow s, tapeLow s, s.composer.marginRelease, inHotZone s]

/-! ## What the display shows (R175) -/

/-- The fields of a cell that the display shows (R175). -/
structure ShownCell where
  id         : Nat
  code       : Code
  start      : Nat
  width      : Nat
  state      : CellState
  mark       : SpellMark
  overstrike : Bool
  fixed      : Bool
  notOnWheel : Bool
deriving DecidableEq, Repr

/-- The items of state a frame is made from (R175). -/
structure ShownItems where
  cells       : List ShownCell
  composition : Option Mode
  p           : Nat
  cursor      : Nat
  pitch       : Pitch
  attr        : Attr
  layout      : Layout
  kbMode      : Mode
  holder      : Option Stream
  dispatch    : DispatchState
  release     : Bool
  hotZone     : Nat
  left        : Nat
  right       : Nat
  supplies    : List Nat
  levels      : List Level
  slots       : List (Option (List Code × Nat))
deriving DecidableEq, Repr

/-- The shown fields of a cell. -/
def Cell.shown (c : Cell) : ShownCell :=
  ⟨c.id, c.code, c.start, c.width, c.state, c.mark, c.overstrike, c.fixed, c.notOnWheel⟩

/-- The shown items of a state (R175). -/
def shownItems (s : State) : ShownItems :=
  { cells := s.lines.current.cells.map Cell.shown, composition := s.lines.current.composition, p := s.composer.p,
    cursor := if s.lines.current.composition = some .line then s.composer.cursor else 0, pitch := effectivePitch s,
    attr := shownAttr s, layout := s.settings.layout, kbMode := s.settings.kbMode, holder := s.streams.holder,
    dispatch := s.dispatch.state, release := s.composer.marginRelease, hotZone := s.settings.hotZone,
    left := s.settings.left, right := s.settings.right,
    supplies := [s.service.ribbon, s.service.ribbonThreshold, s.service.tape, s.service.tapeThreshold],
    levels := [s.signals.ribbon.level, s.signals.tape.level],
    slots := [s.display.kbSlot.map fun m => (m.codes, m.duration), s.display.ifSlot.map fun m => (m.codes, m.duration)] }

end Sys2Proof.Machine
end

