-- ==== Sys2Proof/Machine/Ops.lean ====
section
/-! DEFINITION. The shared operations: block updates, links and answers, notices, beeper, cells, orders, the offerable flag,
streams and the line holder. -/

namespace Sys2Proof.Machine

/-! ## Block updates -/

/-- Updates the block `wheels`. -/
def onWheels (f : WheelStore → WheelStore) (s : State) : State := { s with wheels := f s.wheels }

/-- Updates the block `streams`. -/
def onStreams (f : Streams → Streams) (s : State) : State := { s with streams := f s.streams }

/-- Updates the block `settings`. -/
def onSettings (f : Settings → Settings) (s : State) : State := { s with settings := f s.settings }

/-- Updates the block `lines`. -/
def onLines (f : LineStore → LineStore) (s : State) : State := { s with lines := f s.lines }

/-- Updates the block `composer`. -/
def onComposer (f : Composer → Composer) (s : State) : State := { s with composer := f s.composer }

/-- Updates the block `dispatch`. -/
def onDispatch (f : Dispatch → Dispatch) (s : State) : State := { s with dispatch := f s.dispatch }

/-- Updates the block `energy`. -/
def onEnergy (f : Energy → Energy) (s : State) : State := { s with energy := f s.energy }

/-- Updates the block `correction`. -/
def onCorrection (f : Correction → Correction) (s : State) : State := { s with correction := f s.correction }

/-- Updates the block `spelling`. -/
def onSpelling (f : Spelling → Spelling) (s : State) : State := { s with spelling := f s.spelling }

/-- Updates the block `display`. -/
def onDisplay (f : Display → Display) (s : State) : State := { s with display := f s.display }

/-- Updates the block `signals`. -/
def onSignals (f : Signals → Signals) (s : State) : State := { s with signals := f s.signals }

/-- Updates the block `service`. -/
def onService (f : Service → Service) (s : State) : State := { s with service := f s.service }

/-- Updates the block `links`. -/
def onLinks (f : Links → Links) (s : State) : State := { s with links := f s.links }

/-- Updates the block `notices`. -/
def onNotices (f : Notices → Notices) (s : State) : State := { s with notices := f s.notices }

/-! ## Notices (R199) -/

/-- A raise of a kind in a pending map: the record's count rises by one and stops at 15 and its detail is replaced, or a
record with count 1 is added in its place by kind number (R199). -/
def addNotice (kind : NoticeKind) (detail : List Byte) : List Notice → List Notice
  | [] => [⟨kind, 1, detail⟩]
  | n :: ns =>
    if n.kind = kind then ⟨kind, min 15 (n.count + 1), detail⟩ :: ns
    else if kind.number < n.kind.number then ⟨kind, 1, detail⟩ :: n :: ns
    else n :: addNotice kind detail ns

/-- Updates a station's notices. -/
def onBoard (st : Station) (f : NoticeBoard → NoticeBoard) : State → State :=
  onNotices fun n => match st with
    | .keyboard => { n with keyboard := f n.keyboard }
    | .mechanism => { n with mechanism := f n.mechanism }
    | .interface => { n with interface := f n.interface }

/-- A raise to one named station, whatever the kind's route (R199, direct kinds). -/
def raiseTo (st : Station) (kind : NoticeKind) (detail : List Byte) : State → State :=
  onBoard st fun b => { b with pending := addNotice kind detail b.pending }

/-- The route of a kind. -/
def routeOf (s : State) (kind : NoticeKind) : Route :=
  s.notices.routes.getD (kind.number - 1) (Route.default false false false 0)

/-- A raise to every station of the kind's route (R199). -/
def raise (kind : NoticeKind) (detail : List Byte) (s : State) : State :=
  let r := routeOf s kind
  let s := if r.keyboard then raiseTo .keyboard kind detail s else s
  let s := if r.mechanism then raiseTo .mechanism kind detail s else s
  if r.interface then raiseTo .interface kind detail s else s

/-- REFUSED CHARACTERS to the station of a source, with a reason (numbered as R203 lists them) and a count (R42). -/
def refusedCharacters (src : Stream) (reason count : Nat) : State → State :=
  raiseTo (stationOf src) .refusedCharacters [byte reason, byte count]

/-- SKIPPED CHARACTERS with a count, if any (R16, R30, R74, R82). -/
def skippedCharacters (count : Nat) (s : State) : State :=
  if count = 0 then s else raise .skippedCharacters [byte count] s

/-! ## Links and answers (R193 to R197) -/

/-- A station's link. -/
def linkOf (s : State) : Station → Link
  | .keyboard => s.links.keyboard
  | .mechanism => s.links.mechanism
  | .interface => s.links.interface

/-- Updates a station's link. -/
def onLink (st : Station) (f : Link → Link) : State → State :=
  onLinks fun l => match st with
    | .keyboard => { l with keyboard := f l.keyboard }
    | .mechanism => { l with mechanism := f l.mechanism }
    | .interface => { l with interface := f l.interface }

/-- The end of a complete request frame: the receive buffer holds the request, and the answer buffer is BUSY until the request
has been taken (R193, R195). -/
def frameEnds (st : Station) (r : Request) : State → State :=
  onLink st fun l => { l with receive := some r, answer := .busy }

/-- The request of the receive buffer has been taken: the buffer is empty, and the answer buffer holds the answer (R195). -/
def requestTaken (st : Station) (a : Answer) : State → State :=
  onLink st fun l => { l with receive := none, answer := .held a }

/-- LINK ERROR to the station of the link, with a reason: SHORT FRAME 0, BAD LENGTH 1, OVERRUN 2 (R193, R194, R203). -/
def linkError (st : Station) (reason : Nat) : State → State := raiseTo st .linkError [byte reason]

/-- The end of a request frame that found the answer buffer not EMPTY (R194): the request is lost. -/
def overrunOn (st : Station) (s : State) : State :=
  linkError st 2 (onLink st (fun l => { l with overruns := min 255 (l.overruns + 1) }) s)

/-- The end of a frame whose length byte exceeds 40 (R193). -/
def badLengthOn (st : Station) (s : State) : State :=
  linkError st 1 (onLink st (fun l => { l with receive := none }) s)

/-- A request's outcome with an empty payload and no change of state. -/
def answered (status : Status) (s : State) : State × Answer := (s, ⟨status, []⟩)

/-- OK with an empty payload, after a change of state. -/
def ok (s : State) : State × Answer := answered .ok s

/-- CLAMPED or OK. -/
def okOrClamped (clamped : Bool) (s : State) : State × Answer := answered (if clamped then .clamped else .ok) s

/-- A request whose form has no payload: BAD REQUEST when it has one (R197; notes/assumptions/26.md). -/
def noPayload (payload : List Byte) (h : State → State × Answer) (s : State) : State × Answer :=
  if payload = [] then h s else answered .badRequest s

/-- The end of a request frame (R193 to R195): lost while the answer buffer is not EMPTY, a frame error above 40 bytes;
otherwise the request enters the receive buffer and the answer buffer is BUSY. A part at work leaves it so; a part that is not
takes the request in the same event by `h`, which neither reads nor writes the link's buffers, and the request leaves its
answer (notes/assumptions/1.md). -/
def takeFrame (code : Byte) (st : Station) (payload : List Byte) (h : State → State × Answer) (s : State) : State :=
  if (linkOf s st).answer ≠ .empty then overrunOn st s
  else if 40 < payload.length then badLengthOn st s
  else if s.links.occupied then frameEnds st ⟨code, payload⟩ s
  else requestTaken st (h s).2 (frameEnds st ⟨code, payload⟩ (h s).1)

/-- A request's checks in their order, its code being known: NOT PERMITTED to a station without the permission, and otherwise
its own rule (R195, R197). -/
def takeRequest (kind : ReqKind) (st : Station) (payload : List Byte) (h : State → State × Answer) : State → State :=
  takeFrame kind.code st payload (if permitted st kind then h else answered .notPermitted)

/-! ## Events -/

/-- Sets the display's dirty flag when an item the display shows has changed (R175). -/
def markDirty (before after : State) : State :=
  if shownItems before = shownItems after then after else onDisplay (fun d => { d with dirty := true }) after

/-- Sets the display's dirty flag (R175). -/
def setDirty : State → State := onDisplay fun d => { d with dirty := true }

/-- One event of the part: none is taken while RESET is held (R202), and a change of what the display shows sets its dirty
flag (R175). -/
def event (body : State → State) (s : State) : Host.Outcome State Fault Refusal :=
  .next (if s.resetHeld then s else markDirty s (body s))

/-- A request row: the event of its frame's end (R195). -/
def requestEvent (kind : ReqKind) (st : Station) (payload : List Byte) (h : State → State × Answer) (s : State) :
    Host.Outcome State Fault Refusal :=
  event (takeRequest kind st payload h) s

/-! ## Beeper (R183) -/

/-- Whether a request for a pattern is taken: the beeper is IDLE, or LONG replaces a pattern that is not LONG (R183). -/
def beepTaken (s : State) (p : Pattern) : Bool :=
  match s.signals.beeper with
  | none => true
  | some b => p = .long && b.pattern ≠ .long

/-- A pattern request (R183). -/
def requestBeep (p : Pattern) (s : State) : State :=
  if beepTaken s p then onSignals (fun g => { g with beeper := some ⟨p, 0, g.tone⟩ }) s else s

/-! ## Cells -/

/-- Updates the cells of both line records. -/
def onCells (f : List Cell → List Cell) : State → State :=
  onLines fun l =>
    { current := { l.current with cells := f l.current.cells },
      outgoing := l.outgoing.map fun o => { o with cells := f o.cells } }

/-- Updates every cell that satisfies a test. -/
def mapCells (test : Cell → Bool) (f : Cell → Cell) : State → State :=
  onCells fun cs => cs.map fun c => if test c then f c else c

/-- Updates the cell of an id. -/
def mapCell (id : Nat) (f : Cell → Cell) : State → State := mapCells (·.id = id) f

/-- Updates the current line. -/
def onCurrent (f : Line → Line) : State → State := onLines fun l => { l with current := f l.current }

/-- Replaces the cells of the current line. -/
def setCurrentCells (cs : List Cell) : State → State := onCurrent fun l => { l with cells := cs }

/-- A cell whose outstanding-strike count reaches 0 becomes PRINTED when it is RELEASED (R61, R98). -/
def Cell.settleCount (c : Cell) : Cell :=
  if c.outstanding = 0 ∧ c.state = .released then { c with state := .printed } else c

/-- One outstanding strike fewer (R60, R98). -/
def Cell.strikeGone (c : Cell) : Cell := { c with outstanding := c.outstanding - 1 }.settleCount

/-- Provisional starts of held cells, consecutively from a position, with extra 0 (R74, R77, R81, R136). A cell whose end would
pass the last position stands at the last place that has room for it (R18, R29; notes/assumptions/39.md). -/
def placeFrom : Nat → List Cell → List Cell
  | _, [] => []
  | x, c :: cs => { c with start := min x (lastPosition - c.width), extra := 0 } :: placeFrom (x + c.width) cs

/-- Where cells placed consecutively from a position end, past the last position too. -/
def endFrom (x : Nat) (cs : List Cell) : Nat := x + (cs.map (·.width)).sum

/-- P after held cells placed from a position: the provisional end of the last of them, at most 1559 (R18, R29). -/
def positionAfter (x : Nat) (cs : List Cell) : Nat := min lastPosition (endFrom x cs)

/-! ## Orders (R88, R89, R112 to R115) -/

/-- A serial is in use by an order of the queue or by a strike record (R88). -/
def serialInUse (s : State) (n : Byte) : Bool :=
  s.dispatch.orders.any (·.serial = n) || s.correction.memory.any (·.serial = n)

/-- The first value from `n` on, 255 being followed by 0, that is not in use, among the next `k` values (R88, R148). -/
def firstFree (inUse : Byte → Bool) : Nat → Byte → Option Byte
  | 0, _ => none
  | k + 1, n => if inUse n then firstFree inUse k (n + 1) else some n

/-- Drops the oldest strike record: its cell gains FIXED (R122). -/
def dropOldestRecord (s : State) : State :=
  match s.correction.memory with
  | [] => s
  | r :: rs =>
    let s := onCorrection (fun c => { c with memory := rs }) s
    match r.cell with
    | some id => mapCell id (fun c => { c with fixed := true }) s
    | none => s

/-- The serial the next order takes (R88): the first free value from the counter on, or the oldest record's when all 256
are in use. -/
def nextSerial (s : State) : Byte :=
  match firstFree (serialInUse s) 256 s.dispatch.counter with
  | some n => n
  | none => match s.correction.memory with
    | r :: _ => r.serial
    | [] => s.dispatch.counter

/-- Takes a serial (R88): the counter stands one after it, and when all values were in use the oldest record is dropped. -/
def takeSerial (s : State) : State :=
  let n := nextSerial s
  let s := if (firstFree (serialInUse s) 256 s.dispatch.counter).isNone then dropOldestRecord s else s
  onDispatch (fun d => { d with counter := n + 1 }) s

/-- The previous target: that of the newest order, or C (R114). -/
def previousTarget (s : State) : Nat :=
  match s.dispatch.orders.getLast? with
  | some o => o.job.target
  | none => s.dispatch.c

/-- The travel charge (R114): ceil(travel / 120) while ON. -/
def travelPart (e : Energy) (travel : Nat) : Nat := if e.travelCharge then (travel + 119) / 120 else 0

/-- The class cost (R111). -/
def classCost (e : Energy) : Nat → Nat
  | 1 => e.cost1
  | 2 => e.cost2
  | 3 => e.cost3
  | _ => e.cost4

/-- The cost of an order (R115): class part, lift surcharge and travel part, limited by the capacity. -/
def orderCost (e : Energy) (kind : OrderKind) (energy : Option Nat) (travel : Nat) : Nat :=
  min e.capacity
    ((match kind, energy with
      | .strike, some n => classCost e n
      | .lift, some n => classCost e n + e.surcharge
      | _, _ => 0) + travelPart e travel)

/-- Appends an order at the tail, PENDING, with its serial, travel and cost (R88, R89, R114, R115). -/
def appendJob (j : Job) (s : State) : State :=
  let n := nextSerial s
  let travel := distance j.target (previousTarget s)
  let cost := orderCost s.energy j.kind j.energy travel
  onDispatch (fun d => { d with orders := d.orders ++ [⟨n, false, travel, cost, j⟩] }) (takeSerial s)

/-- Appends orders one after another. -/
def appendJobs (js : List Job) (s : State) : State := js.foldl (fun s j => appendJob j s) s

/-- Retargets the newest order, a PENDING MOVE: its travel is taken again from the order before it or C, its cost afresh
(R69, R116). -/
def retargetTail (p : Nat) (s : State) : State :=
  match s.dispatch.orders.getLast? with
  | none => s
  | some o =>
    let before := s.dispatch.orders.dropLast
    let from_ := match before.getLast? with
      | some b => b.job.target
      | none => s.dispatch.c
    let travel := distance p from_
    let o' := { o with travel := travel, cost := orderCost s.energy .move none travel, job := { o.job with target := p } }
    onDispatch (fun d => { d with orders := before ++ [o'] }) s

/-- The MOVE to a position (R69): merged into a PENDING MOVE at the tail, or appended. -/
def makeMove (p : Nat) (source : Source) (s : State) : State :=
  if tailIsMove s then retargetTail p s else appendJob (Job.plain .move p source none) s

/-- A RETURN order, and directly behind it a due HOME: appended in a free place, or held for the next one (R83, R107). -/
def makeReturn (target feed : Nat) (source : Source) (s : State) : State :=
  let s := appendJob (Job.plain .ret target source (some feed)) s
  if s.dispatch.homeDue then
    if 1 ≤ freePlaces s then
      onDispatch (fun d => { d with homeDue := false }) (appendJob (Job.plain .home target .automatic none) s)
    else onDispatch (fun d => { d with homeHeld := some target }) s
  else s

/-- Removes the orders that fail a test; those behind close up unchanged (R90). -/
def keepOrders (keep : Order → Bool) : State → State :=
  onDispatch fun d => { d with orders := d.orders.filter keep }

/-! ## The offerable flag (R93, R141) -/

/-- The head order is a LIFT of a wheel other than the mounted one (R141). -/
def wrongWheelHead (s : State) : Option Order :=
  match headOrder s with
  | some o => if o.job.kind = .lift ∧ o.job.wheel ≠ some s.wheels.mounted then some o else none
  | none => none

/-- CANNOT LIFT, with a reason (NOTHING 0, FIXED 1, WRONG WHEEL 2, TAPE END 3) and the needed wheel ID (R131, R203). -/
def cannotLift (reason wheel : Nat) : State → State := raise .cannotLift [byte reason, byte wheel]

/-- The wrong-wheel judgement (R141): a head LIFT of another wheel raises CANNOT LIFT once and sets the mark; any other head
clears the mark. -/
def judgeWrongWheel (s : State) : State :=
  match wrongWheelHead s with
  | some o =>
    if s.correction.wrongWheel = some o.serial then s
    else onCorrection (fun c => { c with wrongWheel := some o.serial }) (cannotLift 2 (o.job.wheel.getD 63) s)
  | none => onCorrection (fun c => { c with wrongWheel := none }) s

/-- Judges the offerable flag, and with it the wrong-wheel head (R93, R141): a newly offerable head sets the flag and raises
ORDERS WAITING with its serial. -/
def judge (s : State) : State :=
  let s := judgeWrongWheel s
  match headOrder s with
  | some o =>
    if gate s o = .open_ then
      if s.dispatch.offerable then s
      else raise .ordersWaiting [o.serial] (onDispatch (fun d => { d with offerable := true }) s)
    else onDispatch (fun d => { d with offerable := false }) s
  | none => onDispatch (fun d => { d with offerable := false }) s

/-! ## Streams and the line holder (R43 to R46, R53, R56, R62) -/

/-- Gives an empty current line a composition; in LINE composition the cursor is 0 and P the L snapshot (R62, R63). Its layout
stays (notes/assumptions/51.md). -/
def setComposition (m : Mode) (s : State) : State :=
  let s := onCurrent (fun l => { l with composition := some m }) s
  if m = .line then onComposer (fun c => { c with cursor := 0, p := s.lines.current.snapshot }) s else s

/-- A source becomes the holder; a line without cells takes its mode as composition (R62). -/
def becomeHolder (src : Stream) (s : State) : State :=
  let s := onStreams (fun t => { t with holder := some src }) s
  if s.lines.current.cells.isEmpty then setComposition (modeOf s src) s else s

/-- The holder becomes NONE and the composition absent (R62). A layout that CENTRE or FLUSH RIGHT has given the line without
cells stays with it (notes/assumptions/51.md). -/
def noHolder (s : State) : State :=
  onCurrent (fun l => { l with composition := none }) (onStreams (fun t => { t with holder := none }) s)

/-- The claim of a taken head (R44). -/
def claim (src : Stream) (s : State) : State :=
  match s.streams.holder with
  | none => becomeHolder src s
  | some _ => s

/-- After codes have left the interface stream queue (R56): the flag is cleared and STREAM ROOM raised, with the room level,
when free space has come back to the threshold. -/
def roomCheck (s : State) : State :=
  if s.streams.roomLow && s.streams.roomThreshold ≤ interfaceSpace s then
    raiseTo .interface .streamRoom [byte (interfaceSpace s / 16)] (onStreams (fun t => { t with roomLow := false }) s)
  else s

/-- Removes the head of a stream queue; an entry leaving the interface stream is checked for room (R39, R56). -/
def popHead (src : Stream) (s : State) : State :=
  match src with
  | .keyboard => onStreams (fun t => { t with typeAhead := t.typeAhead.tail }) s
  | .interface => roomCheck (onStreams (fun t => { t with interfaceQ := t.interfaceQ.tail }) s)

/-- The composer takes the head of a stream (R43, R44, R53): the claim, the removal, and for INTERFACE the hold lapse timer
started again while page hold is ON and no lapse is pending. -/
def takeHead (src : Stream) (s : State) : State :=
  let s := popHead src (claim src s)
  if src = .interface ∧ s.streams.pageHold = .on ∧ s.streams.lapsePending = false then
    onStreams (fun t => { t with lapseTimer := some t.lapseTime }) s
  else s

/-- HOLD LAPSED with detail AT ONCE 0 or AT LINE END 1 (R54, R203). -/
def holdLapsed (atLineEnd : Bool) : State → State := raise .holdLapsed [byte (bit atLineEnd)]

/-- A hold end: how the holder passes, by the table of R46. -/
def holdEnd (s : State) : State :=
  match s.streams.holder with
  | none => s
  | some .keyboard =>
    if s.streams.pageHold = .waiting then
      becomeHolder .interface (onStreams (fun t => { t with pageHold := .on, lapseTimer := some t.lapseTime }) s)
    else noHolder s
  | some .interface =>
    if s.streams.takeover then becomeHolder .keyboard (onStreams (fun t => { t with takeover := false }) s)
    else if s.streams.pageHold = .on then
      if s.streams.lapsePending then
        holdLapsed true (noHolder (onStreams (fun t => { t with pageHold := .off, lapsePending := false }) s))
      else becomeHolder .interface s
    else noHolder s

end Sys2Proof.Machine
end

