-- ==== Sys2Proof/Machine/Layout.lean ====
section
/-! DEFINITION. The layout computation of a released line (R30 to R37) and tab motion (R28). -/

namespace Sys2Proof.Machine

/-- A SPACE cell. -/
def Cell.isSpace (c : Cell) : Bool := c.code = spaceCode

/-- Where a TAB takes P (R28). -/
def tabTarget (tabs : List Nat) (right p : Nat) : Nat :=
  if right ≤ p then p
  else match tabs.find? fun t => p < t && t ≤ right with
    | some t => t
    | none => right

/-- Re-resolved widths of the cells on the wheel; the others are dropped (R30, R38). -/
def resolveCells (t : Table) (pitch : Pitch) (cells : List Cell) : List Cell :=
  cells.filterMap fun c => (resolveWidth t pitch c.code).map fun w => { c with width := w }

/-- Removes trailing SPACE cells (R31). -/
def trimTrailing (cells : List Cell) : List Cell := (cells.reverse.dropWhile Cell.isSpace).reverse

/-- The natural width W (R31). -/
def naturalWidth (cells : List Cell) : Nat := (cells.map (·.width)).sum

/-- The number of interior SPACE cells of a line without trailing SPACE cells (R31). -/
def interiorSpaces (cells : List Cell) : Nat := (cells.dropWhile Cell.isSpace).countP Cell.isSpace

/-- The index of the break point (R32): the last interior SPACE cell whose end is at most `right`. `x` is the position
before the cells, `i` their first index, `seen` whether a cell other than SPACE came before, `best` the answer so far. -/
def breakIndex (right : Nat) : Nat → Nat → Bool → Option Nat → List Cell → Option Nat
  | _, _, _, best, [] => best
  | x, i, seen, best, c :: cs =>
    let x' := x + c.width
    if c.isSpace then breakIndex right x' (i + 1) seen (if seen && x' ≤ right then some i else best) cs
    else breakIndex right x' (i + 1) true best cs

/-- The index of the first cell whose end passes `limit` (R33). -/
def overrunIndex (limit : Nat) : Nat → Nat → List Cell → Option Nat
  | _, _, [] => none
  | x, i, c :: cs => if limit < x + c.width then some i else overrunIndex limit (x + c.width) (i + 1) cs

/-- Gives extra steps to interior SPACE cells in text order: q + 1 to the first r of them, q to the others, 0 to every other
cell (R35). -/
def giveExtra (q : Nat) : Nat → Bool → List Cell → List Cell
  | _, _, [] => []
  | r, seen, c :: cs =>
    if c.isSpace && seen then { c with extra := if 0 < r then q + 1 else q } :: giveExtra q (r - 1) seen cs
    else { c with extra := 0 } :: giveExtra q r (seen || !c.isSpace) cs

/-- Final starts from the left: start, width and extra carry to the next cell (R37). -/
def setStarts : Nat → List Cell → List Cell
  | _, [] => []
  | x, c :: cs => { c with start := x } :: setStarts (x + c.width + c.extra) cs

/-- What a line became before its offset is found (R31 to R33): the cells that print, the cells carried to the new line,
whether it is a carried line (broken by R32), and whether it was wider than T without a break point. -/
structure Broken where
  printed  : List Cell
  carried  : List Cell
  isCarried : Bool
  overfull : Bool
  leftOnly : Bool

/-- Trailing SPACE cells, break at a SPACE, or break before the first cell past Q (R31 to R33). -/
def breakLine (left right limit : Nat) (cells : List Cell) : Broken :=
  let line := trimTrailing cells
  if left + naturalWidth line ≤ right then ⟨line, [], false, false, false⟩
  else match breakIndex right left 0 false none line with
    | some i => ⟨trimTrailing (line.take i), (line.drop (i + 1)).dropWhile Cell.isSpace, true, false, false⟩
    | none => match overrunIndex limit left 0 line with
      | none => ⟨line, [], false, true, false⟩
      | some i => ⟨trimTrailing (line.take i), (line.drop i).dropWhile Cell.isSpace, false, true, true⟩

/-- The outcome of the layout computation: final cells, carried cells, and the detail of JUSTIFY FAILED if it is raised:
reason (NO SPACES 0, OVERFULL 1, TOO WIDE 2), interior spaces, shortfall (R36, R203). -/
structure LaidOut where
  printed : List Cell
  carried : List Cell
  failed  : Option (Nat × Nat × Nat)

/-- The offset of a line that is not justified (R33, R34). -/
def lineOffset (layout : Layout) (leftOnly : Bool) (t w : Nat) : Nat :=
  if leftOnly then 0
  else match layout with
    | .centre => (t - w) / 2
    | .flush => t - w
    | _ => 0

/-- The layout computation after re-resolution (R31 to R37): L, M, Q and Xmax as they stand, the line's layout, its cells. -/
def layOut (left right limit xmax : Nat) (layout : Layout) (cells : List Cell) : LaidOut :=
  let b := breakLine left right limit cells
  let t := right - left
  let w := naturalWidth b.printed
  let n := interiorSpaces b.printed
  let short := t - w
  let q := short / n
  let r := short % n
  let plain := setStarts (left + lineOffset layout b.leftOnly t w) (b.printed.map fun c => { c with extra := 0 })
  if layout = .justify then
    if b.isCarried ∧ n = 0 then ⟨plain, b.carried, some (0, n, short)⟩
    else if b.overfull then ⟨plain, b.carried, some (1, n, short)⟩
    else if b.isCarried then
      if q + (if 0 < r then 1 else 0) ≤ xmax then ⟨setStarts left (giveExtra q r false b.printed), b.carried, none⟩
      else ⟨plain, b.carried, some (2, n, short)⟩
    else ⟨plain, b.carried, none⟩
  else ⟨plain, b.carried, none⟩

end Sys2Proof.Machine
end

