-- ==== Sys2Proof/Machine/Spell.lean ====
section
/-! DEFINITION. Words, skip rules, tickets, capture and cancellation (R144 to R150, R159, R160). -/

namespace Sys2Proof.Machine

/-! ## Folded words and skip rules (R146, R147) -/

/-- The folded word of a word's codes (R147). -/
def foldWord (s : State) (codes : List Code) : List Code := codes.map (foldCode s)

/-- The hash of a folded word (R147). -/
def wordHash (word : List Code) : Nat := word.foldl (fun h c => (h * 31 + c.toNat) % 65536) word.length

/-- Whether a word's unfolded codes have a case pattern, judged on its letters (R146). -/
def hasPattern (s : State) (codes : List Code) (p : CasePattern) : Bool :=
  let caps := (codes.filter (classOf s · = .letter)).map (isCapital s)
  let initial := caps.head? = some true && caps.tail.all (!·)
  match p with
  | .any => true
  | .allCapitals => caps.all id
  | .initialCapital => initial
  | .mixed => caps.any id && caps.any (!·) && !initial

/-- Whether a skip rule matches a word (R146). -/
def SkipRule.hits (s : State) (r : SkipRule) (codes : List Code) : Bool :=
  let fits := r.minLen ≤ codes.length && codes.length ≤ r.maxLen && hasPattern s codes r.pattern
  if r.invert then !fits else fits

/-- Whether an enabled skip rule matches a word (R149 step 2). -/
def isSkipped (s : State) (codes : List Code) : Bool := s.spelling.skipRules.any fun r => r.enabled && r.hits s codes

/-! ## The user word table (R150) -/

/-- A word in the sense of R150: letters and apostrophes by the class table, the ends letters, no two apostrophes side by
side. -/
def isWord (s : State) (codes : List Code) : Bool :=
  let cls := codes.map (classOf s)
  2 ≤ codes.length && codes.length ≤ 24 && cls.all (fun k => k = .letter || k = .apostrophe) &&
    cls.head? = some .letter && cls.getLast? = some .letter &&
    (cls.zip cls.tail).all (fun k => !(k.1 = .apostrophe && k.2 = .apostrophe))

/-- Adds a folded word to the user word table (R150): `none` when the table is full and does not hold it. -/
def addUserWord (word : List Code) (s : State) : Option State :=
  if s.spelling.userWords.contains word then some s
  else if 128 ≤ s.spelling.userWords.length then none
  else some (onSpelling (fun p => { p with userWords := p.userWords ++ [word] }) s)

/-! ## Tickets (R148, R159) -/

/-- A ticket number is in use while a cell carries it or the spell queue holds it (R148). -/
def ticketInUse (s : State) (n : Byte) : Bool :=
  (allCells s).any (·.ticket = some n) || s.spelling.queue.any (·.ticket = n)

/-- The number the next ticket takes (R148). -/
def nextTicket (s : State) : Byte := (firstFree (ticketInUse s) 256 s.spelling.ticketCounter).getD s.spelling.ticketCounter

/-- The record of a ticket. -/
def ticketRecord (s : State) (n : Byte) : Option TicketRecord := s.spelling.tickets.find? (·.number = n)

/-- Cancels a ticket (R159): its cells lose the number and take the mark NONE, those in SPELL HOLD return to HELD; a WAITING
ticket leaves the queue with its record, one LOOKING UP is marked cancelled. -/
def cancelTicket (n : Byte) (s : State) : State :=
  let s := mapCells (·.ticket = some n)
    (fun c => { c with ticket := none, word := none, mark := .none,
                       state := if c.state = .spellHold then .held else c.state }) s
  if s.spelling.queue.any fun e => e.ticket = n && e.looking then
    onSpelling (fun p => { p with tickets := p.tickets.map fun r => if r.number = n then { r with cancelled := true } else r }) s
  else
    onSpelling (fun p => { p with queue := p.queue.filter (·.ticket ≠ n), tickets := p.tickets.filter (·.number ≠ n) }) s

/-- The tickets that cells carry, each once. -/
def ticketsOn (cells : List Cell) : List Byte := (cells.filterMap (·.ticket)).dedup

/-! ## The open word (R144, R160) -/

/-- The open word that the cells left of a former one make, and its pending apostrophe (R160): an APOSTROPHE left at the end
becomes the pending apostrophe, the first one when several are left, and the word without a LETTER is empty. An APOSTROPHE left
at the front opens no word (R144). Every other cell stays, whatever SET CLASSES has made of its code; what of this the rules
leave open is notes/assumptions/24.md. -/
def trimWord (s : State) (cells : List Cell) (pendingApos : Option Nat) : List Nat × Option Nat :=
  let apostrophe := fun c : Cell => classOf s c.code = .apostrophe
  let back := (cells.dropWhile apostrophe).reverse
  let word := (back.dropWhile apostrophe).reverse
  if word.any fun c => classOf s c.code = .letter then
    (word.map (·.id), match (back.takeWhile apostrophe).getLast? with
      | some a => some a.id
      | none => pendingApos)
  else ([], none)

/-- Sets the open word and the pending apostrophe. -/
def setOpenWord (w : List Nat × Option Nat) : State → State :=
  onSpelling fun p => { p with openWord := w.1, pendingApos := w.2 }

/-- Takes out of the open word the cells that are gone from the current line or are LIFTING (R144, R160). -/
def pruneOpenWord (s : State) : State :=
  let live := s.lines.current.cells.filter (·.state ≠ .lifting)
  let stays := fun id : Nat => live.any (·.id = id)
  if s.spelling.openWord.all stays && s.spelling.pendingApos.all stays then s
  else setOpenWord (trimWord s (live.filter (s.spelling.openWord.contains ·.id)) (s.spelling.pendingApos.filter stays)) s

/-- The remaining cells of a cancelled word become the open word again, in DIRECT composition and, when they are HELD, in
WORD composition, if the open word is empty and the most recently typed cell that is not LIFTING is one of them (R160). -/
def recapture (s : State) (ids : List Nat) : State :=
  let live := s.lines.current.cells.filter (·.state ≠ .lifting)
  let rest := live.filter (ids.contains ·.id)
  let allowed := match s.lines.current.composition with
    | some .line => false
    | some .word => rest.all (·.state = .held)
    | _ => true
  if allowed && s.spelling.openWord.isEmpty && s.spelling.pendingApos.isNone &&
      live.getLast?.any (fun c => rest.any (·.id = c.id)) then
    setOpenWord (trimWord s rest none) s
  else s

/-- Cancels tickets whose cells have changed, and lets the cells that remain of their words be captured again (R159,
R160). `words` holds, for each ticket, the ids its cells had. -/
def cancelTickets (tickets : List Byte) (s : State) : State :=
  let words := tickets.map fun n => ((allCells s).filter (·.ticket = some n)).map (·.id)
  let s := tickets.foldl (fun s n => cancelTicket n s) s
  words.foldl recapture (pruneOpenWord s)

/-- Removes cells from the line store, the groups and the open word, and cancels their words' tickets (R61, R76, R159). -/
def dropCells (ids : List Nat) (s : State) : State :=
  let gone := fun id : Nat => ids.contains id
  let tickets := ticketsOn ((allCells s).filter (gone ·.id))
  let words := tickets.map fun n => ((allCells s).filter (·.ticket = some n)).map (·.id)
  let s := onCells (fun cs => cs.filter (!gone ·.id)) s
  let s := onComposer (fun c => { c with
    openGroup := c.openGroup.filter (!gone ·)
    closedGroups := (c.closedGroups.map (·.filter (!gone ·))).filter (!·.isEmpty)
    issue := c.issue.map fun g => { g with left := g.left.filter (!gone ·) } }) s
  let s := tickets.foldl (fun s n => cancelTicket n s) s
  words.foldl recapture (pruneOpenWord s)

/-! ## Capture (R149) -/

/-- Gives the cells of a captured word their mark, ticket and capture number. -/
def markWord (ids : List Nat) (mark : SpellMark) (ticket : Option Byte) (s : State) : State :=
  let w := s.composer.nextWord
  onComposer (fun c => { c with nextWord := w + 1 })
    (mapCells (ids.contains ·.id) (fun c => { c with mark := mark, ticket := ticket, word := some w }) s)

/-- Captures a word of the current line (R149); `none` when step 7 does not make the capture. -/
def capture (ids : List Nat) (composition : Mode) (s : State) : Option State :=
  let cells := s.lines.current.cells.filter (ids.contains ·.id)
  let codes := cells.map (·.code)
  if codes.length ≤ 1 ∨ 24 < codes.length then some (markWord ids .skipped none s)
  else if isSkipped s codes then some (markWord ids .skipped none s)
  else
    let word := foldWord s codes
    let n := nextTicket s
    let source := match cells with
      | c :: _ => c.source
      | [] => .keyboard
    let ticketed := fun mark =>
      onSpelling (fun p => { p with
        ticketCounter := n + 1
        tickets := (p.tickets.filter (·.number ≠ n)) ++ [⟨n, word, source, false⟩] }) (markWord ids mark (some n) s)
    if s.spelling.userWords.contains word then some (ticketed .known)
    else if s.spelling.dictState = .off ∨ s.spelling.dictState = .unavailable then some (ticketed .unchecked)
    else if s.spelling.queue.length < 8 then
      some (onSpelling (fun p => { p with queue := p.queue ++ [⟨n, false⟩] }) (ticketed .checking))
    else match composition with
      | .direct => some (onSpelling (fun p => { p with overflow := min 255 (p.overflow + 1) }) (ticketed .unchecked))
      | _ => none

/-- The open word ends: it is captured and becomes empty (R144); `none` when the capture is not made. -/
def endWord (composition : Mode) (s : State) : Option State :=
  if s.spelling.openWord.isEmpty then some (setOpenWord ([], none) s)
  else (capture s.spelling.openWord composition s).map (setOpenWord ([], none))

/-- A cell created in DIRECT or WORD composition is handled by its class (the table of R144). -/
def noteCell (c : Cell) (composition : Mode) (s : State) : Option State :=
  if c.width = 0 then some s
  else if classOf s c.code = .letter ∧ c.overstrike = false then
    some (setOpenWord (s.spelling.openWord ++ s.spelling.pendingApos.toList ++ [c.id], none) s)
  else if classOf s c.code = .apostrophe ∧ c.overstrike = false then
    if s.spelling.openWord.isEmpty then some s
    else if s.spelling.pendingApos.isNone then some (setOpenWord (s.spelling.openWord, some c.id) s)
    else endWord composition s
  else endWord composition s

/-! ## Words of a LINE line (R145, R159) -/

/-- Cells that no longer form one captured word: they lose the number of the capture that marked them, and keep the mark
(R145). -/
def forgetWords (words : List Nat) : State → State :=
  onCurrent fun l => { l with cells := l.cells.map fun c => if c.word.any words.contains then { c with word := none } else c }

/-- Removes cells of a LINE line (R78, R132, R30); what remains of their words is no captured word (R145). -/
def dropLineCells (ids : List Nat) (s : State) : State :=
  let words := (s.lines.current.cells.filter (ids.contains ·.id)).filterMap (·.word)
  dropCells ids (forgetWords words s)

/-- Whether the cells picked by a test are the cells of exactly one run. -/
def isRun (rs : List (List Cell)) (cells : List Cell) (test : Cell → Bool) : Bool :=
  rs.any fun r => r.map (·.id) = (cells.filter test).map (·.id)

/-- Cancels the tickets of words that the runs of the line no longer hold exactly (R159, LINE composition); the cells of
every captured word of which this is true form no captured word any more (R145). The runs are those of the class table as it
stands, so the first edit after a SET CLASSES can find a word changed that nobody edited (notes/assumptions/41.md). -/
def cancelBroken (s : State) : State :=
  let cells := s.lines.current.cells
  let rs := runs (classOf s) cells
  let tickets := (ticketsOn cells).filter fun n => !isRun rs cells (·.ticket = some n)
  let words := (cells.filterMap (·.word)).filter fun w => !isRun rs cells (·.word = some w)
  forgetWords words (tickets.foldl (fun s n => cancelTicket n s) s)

/-- Captures one run, first cancelling any ticket its cells then still carry: those of a captured word that SET CLASSES has made
part of another run (notes/assumptions/41.md). -/
def captureRun (run : List Cell) (s : State) : Option State :=
  let ids := run.map (·.id)
  let tickets := ticketsOn (s.lines.current.cells.filter (ids.contains ·.id))
  capture ids .line (tickets.foldl (fun s n => cancelTicket n s) s)

/-- The runs of the current line that are not captured, and, unless `all`, do not touch the cursor (R145). -/
def runsToCapture (all : Bool) (s : State) : List (List Cell) :=
  let cells := s.lines.current.cells
  (runs (classOf s) cells).filter fun r => !isCaptured cells r && (all || !touches cells s.composer.cursor r)

/-- The spelling of a LINE line after an event that inserted or removed cells (`edited`) or moved the cursor (R145, R159);
`none` when a capture is not made, so that the stream entry stays at the head (R149). -/
def lineSpelling (edited : Bool) (s : State) : Option State :=
  let s := if edited then cancelBroken s else s
  (runsToCapture false s).foldlM (fun s r => captureRun r s) s

/-- Captures runs in text order until a capture is not made (R145). -/
def captureMany : List (List Cell) → State → State
  | [], s => s
  | r :: rs, s => match captureRun r s with
    | some s' => captureMany rs s'
    | none => s

/-- A RETURN has reached the head in LINE composition: every run not yet captured is captured in text order (R145). -/
def captureLine (s : State) : State := captureMany (runsToCapture true s) s

end Sys2Proof.Machine
end

