-- ==== Sys2Proof/Machine/Lifting.lean ====
section
/-! DEFINITION. Strike records and LIFT orders as the other blocks act on them: links, settlement, and the clearing of the
correction memory (R122 to R125, R137). -/

namespace Sys2Proof.Machine

/-! ## Links (R86, R121) -/

/-- A LIFT whose link is the serial of a FETCHED STRIKE. -/
def Job.linksSerial (n : Byte) (j : Job) : Bool := j.link = some (.serial n)

/-- A LIFT whose link is a record. -/
def Job.linksRecord (j : Job) : Bool :=
  match j.link with
  | some (.record _ _) => true
  | _ => false

/-- The record a LIFT's link names. -/
def Job.recordId (j : Job) : Option Nat :=
  match j.link with
  | some (.record id _) => some id
  | _ => none

/-- Whether a job is a LIFT. -/
def Job.isLift (j : Job) : Bool := j.kind = .lift

/-- Removes held orders that fail a test. -/
def keepHeld (keep : Job → Bool) : State → State := onCorrection fun c => { c with held := c.held.filter keep }

/-- Removes from the queue and the held list every LIFT linked to one of the serials (R15, R16, R138). -/
def dropLinked (serials : List Byte) (s : State) : State :=
  let stays := fun j : Job => !serials.any (j.linksSerial ·)
  keepHeld stays (keepOrders (stays ·.job) s)

/-- Updates the records that satisfy a test. -/
def mapRecords (test : StrikeRecord → Bool) (f : StrikeRecord → StrikeRecord) : State → State :=
  onCorrection fun c => { c with memory := c.memory.map fun r => if test r then f r else r }

/-! ## Settlement (R137) -/

/-- A LIFT order of a cell is in the queue or the held list. -/
def hasLift (s : State) (id : Nat) : Bool :=
  s.dispatch.orders.any (fun o => o.job.isLift && o.job.cell = some id) ||
    s.correction.held.any (fun j => j.isLift && j.cell = some id)

/-- A STRIKE order of a cell is in the queue. -/
def hasStrike (s : State) (id : Nat) : Bool :=
  s.dispatch.orders.any fun o => o.job.kind = .strike && o.job.cell = some id

/-- A cell has a record in the memory. -/
def hasRecord (s : State) (id : Nat) : Bool := s.correction.memory.any (·.cell = some id)

/-- A LIFTING cell leaves LIFTING: PRINTED when its count is 0, RELEASED otherwise (R61, R137). -/
def Cell.leaveLifting (c : Cell) : Cell :=
  if c.state = .lifting then { c with state := if c.outstanding = 0 then .printed else .released } else c

/-- Judges a cell by R137: a LIFTING cell with no LIFT, no STRIKE and no record is removed; one with no LIFT that still has a
record, or a STRIKE in the queue (notes/assumptions/19.md), leaves LIFTING. -/
def judgeLifting (id : Nat) (s : State) : State :=
  match findCell s id with
  | none => s
  | some c =>
    if c.state ≠ .lifting ∨ hasLift s id then s
    else if hasRecord s id ∨ hasStrike s id then mapCell id Cell.leaveLifting s
    else dropCells [id] s

/-- The ids of the LIFTING cells. -/
def liftingIds (s : State) : List Nat := ((allCells s).filter (·.state = .lifting)).map (·.id)

/-- Judges every LIFTING cell. -/
def judgeAllLifting (s : State) : State := (liftingIds s).foldl (fun s id => judgeLifting id s) s

/-! ## Records (R121 to R123, R125) -/

/-- Makes the record of a completed STRIKE and appends it, the oldest record dropped first when 240 stand; LIFTs linked to
its serial pass their link to it, and it is then LIFT PENDING (R121, R122). -/
def makeRecord (o : Order) (s : State) : State :=
  let s := if 240 ≤ s.correction.memory.length then dropOldestRecord s else s
  let id := s.correction.nextRecord
  let linked := s.dispatch.orders.any (·.job.linksSerial o.serial) || s.correction.held.any (·.linksSerial o.serial)
  let pass := fun j : Job => if j.linksSerial o.serial then { j with link := some (.record id o.serial) } else j
  let r : StrikeRecord :=
    { id := id, position := o.job.target, petal := o.job.petal, second := o.job.second, energy := o.job.energy,
      wheel := o.job.wheel, role := o.job.role, cell := o.job.cell, serial := o.serial, pending := linked }
  onDispatch (fun d => { d with orders := d.orders.map fun p => { p with job := pass p.job } })
    (onCorrection (fun c => { c with memory := c.memory ++ [r], held := c.held.map pass, nextRecord := id + 1 }) s)

/-- Removes the record a completed LIFT names, if it still stands (R125). -/
def removeRecord (j : Job) : State → State :=
  onCorrection fun c => { c with memory := c.memory.filter fun r => j.recordId ≠ some r.id }

/-- The clearing of the memory at the DONE completion of a RETURN or FEED (R123). Only cells of the current line gain FIXED, a cell
of the outgoing line that leaves LIFTING not (notes/assumptions/52.md). -/
def clearMemory (s : State) : State :=
  let fixedIds := s.correction.memory.filterMap (·.cell)
  let fix := fun c : Cell => if fixedIds.contains c.id then { c with fixed := true } else c
  let s := onCurrent (fun l => { l with cells := l.cells.map fix }) s
  let gone := fun j : Job => j.isLift && j.linksRecord
  let any := s.dispatch.orders.any (fun o => !o.fetched && gone o.job) || s.correction.held.any gone
  let s := keepHeld (!gone ·) (keepOrders (fun o => o.fetched || !gone o.job) s)
  let s := onCorrection (fun c => { c with memory := [] }) s
  let s := (liftingIds s).foldl (fun s id => if hasLift s id then s else mapCell id Cell.leaveLifting s) s
  if any then cannotLift 1 63 s else s

end Sys2Proof.Machine
end

