-- ==== Sys2Proof/Machine/Compose.lean ====
section
/-! DEFINITION. The composer: stream entries, cells, groups, line ends, releases and issues (chapter 4). -/

namespace Sys2Proof.Machine

/-! ## Taking an entry (R43, R44, R65) -/

/-- The head of a stream is a code and the line is free to the source (R44). -/
def admitted (s : State) (src : Stream) (code : Code) : Bool := (queueOf s src).head? = some code && freeTo s src

/-- The composer takes entries: no order of a correction waits for room, and no line release is in progress (R65, R135). -/
def canTake (s : State) : Bool := s.correction.held.isEmpty && s.composer.release.isNone

/-- What an attempt leaves: the state as it was when the entry stays at the head (`none`), else the new state with the
offerable flag judged (R93). -/
def settle (s : State) : Option State → State
  | none => s
  | some s' => judge s'

/-- A stream function that does not flush, taken when it stands at an admitted head (R65). -/
def entry (src : Stream) (code : Code) (body : State → Option State) (s : State) : State :=
  if admitted s src code && canTake s then settle s (body s) else s

/-- A function with no meaning (R65). -/
def noMeaning (src : Stream) (s : State) : State := requestBeep .short (takeHead src s)

/-- A refused entry (R66, R76, R163): LONG beep, and REFUSED CHARACTERS with a reason and count 1. -/
def refuse (src : Stream) (reason : Nat) (s : State) : State :=
  refusedCharacters src reason 1 (requestBeep .long (takeHead src s))

/-- The current line holds a held cell. -/
def holdsHeld (s : State) : Bool := s.lines.current.cells.any (·.isHeld)

/-- Closes the open group; its open word ends, and when its capture is not made the group stays open (R73). -/
def closeOpen (s : State) : State :=
  if s.composer.openGroup.isEmpty then s
  else match endWord .word s with
    | none => s
    | some s' => onComposer (fun c => { c with openGroup := [], closedGroups := c.closedGroups ++ [c.openGroup] }) s'

/-- A function that flushes in WORD composition (R73): with held cells it closes the open group and stays at the head; it is
taken when none is held and no group is being issued. -/
def flushing (src : Stream) (code : Code) (body : State → Option State) (s : State) : State :=
  if admitted s src code then
    if compositionFor s src = .word && holdsHeld s then closeOpen s
    else if canTake s && (compositionFor s src ≠ .word || s.composer.issue.isNone) then settle s (body s)
    else s
  else s

/-- P moves by a positioning function, with its MOVE (R69): `none` when the MOVE finds no place. -/
def movePosition (p : Nat) (source : Source) (s : State) : Option State :=
  if p = s.composer.p then some s
  else if moveFits s then some (makeMove p source (onComposer (fun c => { c with p := p }) s))
  else none

/-! ## Cells (R60, R67, R68, R72, R77) -/

/-- A cell as a source composes it at a position: HELD, with the attributes of the source (R60). -/
def newCell (s : State) (src : Stream) (code : Code) (start width : Nat) : Cell :=
  { id := s.composer.nextCell, code := code, start := start, width := width, extra := 0, bold := (attrOf s src).bold,
    underline := (attrOf s src).underline, source := src, state := .held, mark := .none, overstrike := false, fixed := false,
    notOnWheel := false, ticket := none, word := none, outstanding := 0 }

/-- OVERSTRIKE for a cell that overlaps one of width above 0 that stays in the line (R68, R136). -/
def withOverstrike (cells : List Cell) (c : Cell) : Cell :=
  let hits := cells.any fun d => decide (0 < d.width) && d.state ≠ .lifting && c.overlaps d
  { c with overstrike := decide (0 < c.width) && hits }

/-- The L snapshot is taken again when a cell comes into a line that holds none (R59). -/
def freshSnapshot (s : State) : State :=
  if s.lines.current.cells.isEmpty then onCurrent (fun l => { l with snapshot := s.settings.left }) s else s

/-- Appends a cell to the current line; P moves to its end (R67, R72). -/
def appendCell (c : Cell) (s : State) : State :=
  onComposer (fun k => { k with p := c.stop, nextCell := k.nextCell + 1 })
    (onCurrent (fun l => { l with cells := l.cells ++ [c] }) (freshSnapshot s))

/-- A cell as its strikes leave it: RELEASED, or PRINTED without any (R61, R67). -/
def Cell.issued (c : Cell) (n : Nat) : Cell :=
  { c with state := if n = 0 then .printed else .released, outstanding := n }

/-- Sets the cells of a LINE line and its cursor: provisional starts from the L snapshot, P from the cursor (R63, R77). -/
def setLine (cells : List Cell) (cursor : Nat) (s : State) : State :=
  let x := s.lines.current.snapshot
  onComposer (fun k => { k with cursor := cursor, p := positionAfter x (cells.take cursor) })
    (setCurrentCells (placeFrom x cells) s)

/-- The provisional width of a LINE line with more cells: the L snapshot is taken afresh for an empty line (R59, R77). -/
def lineEndWith (s : State) (width : Nat) : Nat :=
  let line := s.lines.current
  endFrom (if line.cells.isEmpty then s.settings.left else line.snapshot) line.cells + width

/-- Why a printable code is refused (R66); `none` when it becomes a cell. In LINE composition an end past 1559 is past Q as well,
and the reason is OVERRUN (notes/assumptions/42.md). -/
def refusal (t : Table) (m : Mode) (code : Code) (s : State) : Option Nat :=
  let w := t.width (effectivePitch s) code
  let stop := s.composer.p + w
  if !t.has code then some 3
  else if 160 ≤ s.lines.current.cells.length then some 4
  else match m with
    | .line => if overrunLimit s < lineEndWith s w then some 7 else none
    | _ =>
      if lastPosition < stop then some 5
      else if !s.composer.marginRelease && (m = .direct || !s.settings.autoReturn) && 0 < w && s.settings.right < stop then
        some 6
      else if m = .word && s.settings.autoReturn && !s.composer.marginRelease && overrunLimit s < stop then some 7
      else none

/-- The hot-zone bell, once a line (R71). -/
def hotZoneBell (s : State) : State :=
  if inHotZone s && !s.composer.bellRung then requestBeep .short (onComposer (fun c => { c with bellRung := true }) s) else s

/-- A printable code becomes a cell in DIRECT composition (R67): `none` until the queue has room for its orders. -/
def directCell (t : Table) (src : Stream) (code : Code) (s : State) : Option State :=
  let c := withOverstrike s.lines.current.cells (newCell s src code s.composer.p (t.width (effectivePitch s) code))
  let jobs := strikeJobs t s.energy.impression c
  if places s < jobs.length ∨ (jobs = [] ∧ moveFits s = false) then none
  else
    let cell := c.issued jobs.length
    let s := appendJobs jobs (appendCell cell s)
    let s := if jobs = [] then makeMove c.stop (sourceOf src) s else s
    (noteCell cell .direct s).map hotZoneBell

/-- Whether a cell's class closes the open group (R73). -/
def closesGroup (s : State) (code : Code) : Bool :=
  classOf s code = .space || classOf s code = .punct || classOf s code = .hyphen

/-- A printable code becomes a HELD cell in WORD composition (R72, R73): `none` while the word it ends is not captured. -/
def wordCell (t : Table) (src : Stream) (code : Code) (s : State) : Option State :=
  let c := withOverstrike s.lines.current.cells (newCell s src code s.composer.p (t.width (effectivePitch s) code))
  let s := onComposer (fun k => { k with openGroup := k.openGroup ++ [c.id] }) (appendCell c s)
  (noteCell c .word s).map fun s =>
    if closesGroup s code then
      onComposer (fun k => { k with openGroup := [], closedGroups := k.closedGroups ++ [k.openGroup] }) s
    else s

/-- Inserts cells of one code at the cursor of a LINE line (R77, R78). -/
def insertCells (n : Nat) (src : Stream) (code : Code) (width : Nat) (s : State) : State :=
  let s := freshSnapshot s
  let k := s.composer.cursor
  let cells := s.lines.current.cells
  let new := (List.range n).map fun i => { newCell s src code 0 width with id := s.composer.nextCell + i }
  onComposer (fun c => { c with nextCell := c.nextCell + n })
    (setLine (cells.take k ++ new ++ cells.drop k) (k + n) s)

/-- A printable code becomes a HELD cell at the cursor in LINE composition (R77, R145). -/
def lineCell (t : Table) (src : Stream) (code : Code) (s : State) : Option State :=
  lineSpelling true (insertCells 1 src code (t.width (effectivePitch s) code) s)

/-! ## Line ends (R81 to R83) -/

/-- A new current line begins with cells carried to it (R59, R62, R63, R81). -/
def beginLine (cells : List Cell) (composition : Option Mode) (s : State) : State :=
  let x := s.settings.left
  let line : Line :=
    { cells := placeFrom x cells, layout := s.settings.layout, composition := composition, snapshot := x,
      state := .composing, returnSerial := none }
  setDirty (onComposer (fun k => { k with
    p := positionAfter x cells, cursor := cells.length, marginRelease := false, bellRung := false, openGroup := [],
    closedGroups := [] }) (onCurrent (fun _ => line) s))

/-- Makes the RETURN order of a line (R83): the state with the order, and its serial. -/
def lineReturnOrder (src : Stream) (s : State) : State × Byte :=
  (makeReturn s.settings.left s.settings.lineSpacing (sourceOf src) s, nextSerial s)

/-- Sets the outgoing line. -/
def setOutgoing (l : Option Line) : State → State := onLines fun x => { x with outgoing := l }

/-- RETURN in DIRECT or WORD composition (R81): `none` while it stays at the head. -/
def directReturn (src : Stream) (s : State) : Option State :=
  if s.lines.outgoing.isSome ∨ places s < 1 then none
  else (endWord (compositionFor s src) (takeHead src s)).map fun s =>
    let r := lineReturnOrder src s
    let line := { r.1.lines.current with state := .printing, returnSerial := some r.2 }
    holdEnd (beginLine [] none (setOutgoing (some line) r.1))

/-- A line release ends when every cell has been issued and a place is free: its RETURN order is made (R82, R83). -/
def finishRelease (s : State) : State :=
  match s.composer.release, s.lines.outgoing with
  | some r, some l =>
    if l.cells.any (·.isHeld) ∨ places s < 1 then s
    else
      let x := lineReturnOrder r.source s
      let line := { (x.1.lines.outgoing.getD l) with state := .printing, returnSerial := some x.2 }
      skippedCharacters r.skipped
        (onComposer (fun c => { c with release := none }) (setOutgoing (some line) x.1))
  | _, _ => s

/-- JUSTIFY FAILED with its detail (R36). -/
def justifyFailed : Option (Nat × Nat × Nat) → State → State
  | none => id
  | some f => raise .justifyFailed ([byte f.1, byte f.2.1] ++ bytesOf 2 f.2.2)

/-- The first step of the layout computation (R30): the cells not on the wheel are dropped and counted, the others take the
widths of the table. A drop is a removal of R159: at once it cancels the tickets of the words that lose a cell and of those that
are no longer exactly a run, as when the cell between two words goes. Runs are judged by the widths of the table
(notes/assumptions/55.md). -/
def resolveLine (t : Table) (s : State) : State :=
  let gone := (s.lines.current.cells.filter (!t.has ·.code)).map (·.id)
  let s := dropLineCells gone s
  let s := setCurrentCells (resolveCells t (effectivePitch s) s.lines.current.cells) s
  skippedCharacters gone.length (if gone = [] then s else cancelBroken s)

/-- The release of a LINE line at its RETURN (R30 to R37, R81, R82). It examines no run of the new line: a carried word whose
ticket its drops have cancelled is captured at the next edit, cursor movement or RETURN (R145, R160), which is the model's choice
(notes/assumptions/55.md). -/
def releaseLine (src : Stream) (t : Table) (s : State) : State :=
  let s := resolveLine t (takeHead src s)
  let line := s.lines.current
  let out := layOut s.settings.left s.settings.right (overrunLimit s) s.settings.xmax line.layout line.cells
  let s := justifyFailed out.failed s
  let s := setOutgoing (some { line with cells := out.printed, state := .releasing, returnSerial := none }) s
  let s := onComposer (fun c => { c with release := some ⟨0, src⟩ }) s
  let s := beginLine out.carried (if out.carried = [] then none else some .line) s
  finishRelease (if out.carried = [] then holdEnd s else s)

/-- RETURN in LINE composition at an admitted head (R81, R145, R163). -/
def lineReturn (src : Stream) (s : State) : State :=
  let s := captureLine s
  if canTake s then
    if refusesReturn s then judge (refuse src 9 s)
    else if holdsReturn s ∨ s.lines.outgoing.isSome then s
    else match mountedTable s with
      | none => s
      | some t => judge (releaseLine src t s)
  else s

/-- RETURN at the head of a stream (R81). -/
def composeReturn (src : Stream) (s : State) : State :=
  if admitted s src 0x0D && compositionFor s src = .line then lineReturn src s
  else flushing src 0x0D (directReturn src) s

/-- A printable code at the head of a stream (R12, R65 to R67, R71, R72, R77). -/
def composePrintable (src : Stream) (s : State) : State :=
  match (queueOf s src).head?, mountedTable s with
  | some code, some t =>
    if printable code && freeTo s src && canTake s then
      let m := compositionFor s src
      if m = .direct && code = spaceCode && s.settings.autoReturn && pastHotZoneStart s then settle s (directReturn src s)
      else
        let taken := takeHead src s
        match refusal t m code taken with
        | some reason => judge (refuse src reason s)
        | none => settle s (match m with
          | .direct => directCell t src code taken
          | .word => wordCell t src code taken
          | .line => lineCell t src code taken)
    else s
  | _, _ => s

/-! ## Positioning, editing, feeds (R70, R76, R78, R84) -/

/-- How far BACKSPACE moves P (R70). -/
def backWidth (s : State) : Nat :=
  match (s.lines.current.cells.filter fun c => 0 < c.width && c.stop = s.composer.p).getLast? with
  | some c => c.width
  | none => 2

/-- BACKSPACE as in DIRECT composition (R70, R144). -/
def directBackspace (src : Stream) (s : State) : Option State :=
  let m := compositionFor s src
  let s := takeHead src s
  let p := s.composer.p - backWidth s
  if p = s.composer.p then some s else (endWord m s).bind (movePosition p (sourceOf src))

/-- The most recently typed cell that is HELD or SPELL HOLD (R76). -/
def lastHeld (s : State) : Option Cell := (s.lines.current.cells.filter (·.isHeld)).getLast?

/-- A closed group that is the last group and has lost cells becomes the open group again, when there is no open group; the
ticket of the word whose last cell is then the last HELD cell of the line is cancelled, unless it is in SPELL HOLD (R76, R132,
R159). `before` is the state before the deletion, `ids` the cells deleted. -/
def reopenGroup (before : State) (ids : List Nat) (s : State) : State :=
  match s.composer.openGroup, s.composer.closedGroups.getLast? with
  | [], some g =>
    if before.composer.closedGroups.any fun x => x.length ≠ g.length && x.filter (!ids.contains ·) = g then
      let s := onComposer (fun c => { c with openGroup := g, closedGroups := c.closedGroups.dropLast }) s
      match lastHeld s with
      | some c =>
        match c.ticket with
        | some n => if c.state = .spellHold then s else cancelTickets [n] s
        | none => s
      | none => s
    else s
  | _, _ => s

/-- Deletes HELD cells of a WORD line (R76, R132, R159, R160). -/
def deleteHeld (ids : List Nat) (s : State) : State := reopenGroup s ids (dropCells ids s)

/-- BACKSPACE in WORD composition (R76). -/
def wordBackspace (src : Stream) (s : State) : Option State :=
  match lastHeld s with
  | none => directBackspace src s
  | some c =>
    if c.state = .spellHold then some (refuse src 8 s)
    else some (onComposer (fun k => { k with p := c.start }) (deleteHeld [c.id] (takeHead src s)))

/-- Removes cells of a LINE line, the cursor standing then at `cursor`; what remains of their words is no captured word
(R78, R132, R145). -/
def removeLineCells (ids : List Nat) (cursor : Nat) (s : State) : Option State :=
  let s := dropLineCells ids s
  lineSpelling true (setLine s.lines.current.cells cursor s)

/-- BACKSPACE in LINE composition (R78). -/
def lineBackspace (src : Stream) (s : State) : Option State :=
  let t := takeHead src s
  match t.composer.cursor with
  | 0 => some (noMeaning src s)
  | k + 1 => match t.lines.current.cells[k]? with
    | none => some (noMeaning src s)
    | some c => removeLineCells [c.id] k t

/-- BACKSPACE (R70, R76, R78). -/
def composeBackspace (src : Stream) (s : State) : Option State :=
  match compositionFor s src with
  | .direct => directBackspace src s
  | .word => wordBackspace src s
  | .line => lineBackspace src s

/-- TAB in LINE composition (R12, R78). -/
def lineTab (src : Stream) (s : State) : Option State :=
  match mountedTable s with
  | none => none
  | some t =>
    let s1 := takeHead src s
    let p := s1.composer.p
    let target := tabTarget s1.settings.tabs s1.settings.right p
    if target ≤ p then some s1
    else
      let w := t.width (effectivePitch s1) spaceCode
      let n := (target - p + w - 1) / w
      if 160 < s1.lines.current.cells.length + n then some (refuse src 4 s)
      else if overrunLimit s1 < lineEndWith s1 (n * w) then some (refuse src 7 s)
      else lineSpelling true (insertCells n src spaceCode w s1)

/-- TAB (R70, R78). -/
def composeTab (src : Stream) (s : State) : Option State :=
  let m := compositionFor s src
  if m = .line then lineTab src s
  else
    let s := takeHead src s
    (endWord m s).bind (movePosition (tabTarget s.settings.tabs s.settings.right s.composer.p) (sourceOf src))

/-- A feed of half-lines (R84). -/
def composeFeed (src : Stream) (feed : Int) (s : State) : Option State :=
  if places s < 1 then none
  else (endWord (compositionFor s src) (takeHead src s)).map fun s =>
    appendJob (Job.plain .feed (previousTarget s) (sourceOf src) (some feed)) s

/-- The greatest end among cells. -/
def greatestEnd (cells : List Cell) : Nat := cells.foldl (fun n c => max n c.stop) 0

/-- The cursor of a LINE line moves (R78, R145). -/
def moveCursor (k : Nat) (s : State) : Option State := lineSpelling false (setLine s.lines.current.cells k s)

/-- RELOCATE (R70, R78). In LINE composition with the cursor at the end already it is taken and nothing changes: no cursor moves,
so no run is examined (R145). -/
def composeRelocate (s : State) : Option State :=
  let m := compositionFor s .keyboard
  let s1 := takeHead .keyboard s
  if m = .line then
    if s1.composer.cursor = s1.lines.current.cells.length then some s1 else moveCursor s1.lines.current.cells.length s1
  else if s1.lines.current.cells = [] then some (noMeaning .keyboard s)
  else (endWord m s1).bind (movePosition (greatestEnd s1.lines.current.cells) .keyboard)

/-- CURSOR LEFT (R78). -/
def composeCursorLeft (s : State) : Option State :=
  let s1 := takeHead .keyboard s
  if compositionFor s .keyboard = .line ∧ 0 < s1.composer.cursor then moveCursor (s1.composer.cursor - 1) s1
  else some (noMeaning .keyboard s)

/-- CURSOR RIGHT (R78). -/
def composeCursorRight (s : State) : Option State :=
  let s1 := takeHead .keyboard s
  if compositionFor s .keyboard = .line ∧ s1.composer.cursor < s1.lines.current.cells.length then
    moveCursor (s1.composer.cursor + 1) s1
  else some (noMeaning .keyboard s)

/-- DELETE (R78). -/
def composeDelete (s : State) : Option State :=
  let s1 := takeHead .keyboard s
  if compositionFor s .keyboard = .line then
    match s1.lines.current.cells[s1.composer.cursor]? with
    | some c => removeLineCells [c.id] s1.composer.cursor s1
    | none => some (noMeaning .keyboard s)
  else some (noMeaning .keyboard s)

/-- MARGIN RELEASE (R65, R71). -/
def composeMarginRelease (s : State) : Option State :=
  if compositionFor s .keyboard = .line then some (noMeaning .keyboard s)
  else some (onComposer (fun c => { c with marginRelease := true }) (takeHead .keyboard s))

/-- CENTRE and FLUSH RIGHT (R79). -/
def composeLayout (src : Stream) (layout : Layout) (s : State) : Option State :=
  let m := compositionFor s src
  let s1 := takeHead src s
  let laid := onCurrent (fun l => { l with layout := layout }) s1
  if m = .line then some laid
  else if s1.lines.current.cells = [] then some (setComposition .line laid)
  else some (noMeaning src s)

/-- An attribute function (R63). -/
def composeAttr (src : Stream) (f : Attr → Attr) (s : State) : Option State :=
  some (onComposer (fun c => match src with
    | .keyboard => { c with kbAttr := f c.kbAttr }
    | .interface => { c with ifAttr := f c.ifAttr }) (takeHead src s))

/-- The current line begins afresh after CLEAR LINE, with the keyboard's mode, and the hold end follows (R45, R80). -/
def clearedLine (s : State) : State :=
  let s := onCurrent (fun _ => Line.fresh s.settings.layout s.settings.left) s
  let s := onComposer (fun c => { c with marginRelease := false, bellRung := false }) s
  setDirty (holdEnd (setComposition s.settings.kbMode s))

/-- The start of the first of some cells, `p` without any. -/
def firstStart (p : Nat) : List Cell → Nat
  | h :: _ => h.start
  | [] => p

/-- CLEAR LINE (R80). -/
def composeClearLine (s : State) : Option State :=
  let m := compositionFor s .keyboard
  let s1 := takeHead .keyboard s
  let held := s1.lines.current.cells.filter (·.isHeld)
  if held = [] ∧ s1.lines.current.cells ≠ [] then some (noMeaning .keyboard s)
  else
    let s2 := dropCells (held.map (·.id)) s1
    let s3 : State := match m with
      | .line => onComposer (fun c => { c with cursor := 0, p := s2.lines.current.snapshot }) s2
      | .word => onComposer (fun c => { c with openGroup := [], closedGroups := [], p := firstStart c.p held }) s2
      | .direct => s2
    some (if s3.lines.current.cells = [] then clearedLine s3 else s3)

/-! ## Non-holder policies (R48, R49) -/

/-- The REFUSE policy drops a head (R48). -/
def dropNotHolder (src : Stream) (s : State) : State :=
  let policy := match src with
    | .keyboard => s.streams.kbPolicy
    | .interface => s.streams.ifPolicy
  if (queueOf s src).isEmpty ∨ s.streams.holder = none ∨ s.streams.holder = some src ∨ policy ≠ .refuse then s
  else refusedCharacters src 1 1 (popHead src s)

/-- The DIVERT policy moves a head, or drops it when the divert queue is full (R49). -/
def divertHead (s : State) : State :=
  match s.streams.typeAhead with
  | [] => s
  | c :: _ =>
    if s.streams.holder = some .interface ∧ s.streams.kbPolicy = .divert then
      let s := popHead .keyboard s
      if s.streams.divertQ.length < 16 then
        let s := onStreams (fun t => { t with divertQ := t.divertQ ++ [c] }) s
        raiseTo .interface .divertedKeys [byte s.streams.divertQ.length] s
      else refusedCharacters .keyboard 2 1 s
    else s

/-! ## Group releases (R74, R75) -/

/-- The held cells of a group, in the order of the line. -/
def groupCells (s : State) (g : List Nat) : List Cell := s.lines.current.cells.filter fun c => c.isHeld && g.contains c.id

/-- Spelling allows the release of a group's cells, and none is SPELL HOLD (R74, R162). -/
def groupAllowed (s : State) (cells : List Cell) : Bool :=
  cells.all fun c => c.state ≠ .spellHold && c.mark ≠ .checking &&
    !(c.mark = .unknown && unknownPolicy s c.source = .hold)

/-- Where a group starts: the start of its first cell. -/
def groupStart (cells : List Cell) : Nat :=
  match cells with
  | c :: _ => c.start
  | [] => 0

/-- The release of a group wraps (R75). -/
def wraps (t : Table) (s : State) (cells : List Cell) : Bool :=
  let x := groupStart cells
  let word := trimTrailing (resolveCells t (effectivePitch s) cells)
  s.settings.autoReturn && !s.composer.marginRelease && s.settings.left < x && !word.isEmpty &&
    s.settings.right < endFrom x word

/-- Placing cells consecutively, a cell whose end would pass the last position left out (R74, step 1): the cells placed and
those left out. -/
def placeWithin : Nat → List Cell → List Cell × List Cell
  | _, [] => ([], [])
  | x, c :: cs =>
    if lastPosition < x + c.width then
      let r := placeWithin x cs
      (r.1, c :: r.2)
    else
      let r := placeWithin (x + c.width) cs
      ({ c with start := x, extra := 0 } :: r.1, r.2)

/-- Gives cells of a list the place of the cells of the same id: start, width and extra. -/
def replaceCells (places : List Cell) (cells : List Cell) : List Cell :=
  cells.map fun c => match places.find? (·.id = c.id) with
    | some d => { c with start := d.start, width := d.width, extra := d.extra }
    | none => c

/-- The release of a group from a start (R74, steps 1 and 2): its cells re-resolved and placed, the held cells behind it
re-placed, P set, and the issue begun. Of a group that loses every cell in step 1 there is no last end, of which step 2 speaks:
the held cells behind it, and P, then go from the start the group was to be placed from, which is the model's choice
(notes/assumptions/56.md). -/
def releaseGroup (t : Table) (x : Nat) (g : List Nat) (rest : List (List Nat)) (s : State) : State :=
  let source := s.streams.holder.getD .keyboard
  let off := ((groupCells s g).filter (!t.has ·.code)).map (·.id)
  let s := skippedCharacters off.length (dropCells off s)
  let r := placeWithin x (resolveCells t (effectivePitch s) (groupCells s g))
  let s := r.2.foldl (fun s c => refusedCharacters c.source 5 1 s) (dropCells (r.2.map (·.id)) s)
  let stop := endFrom x r.1
  let behind := s.lines.current.cells.filter fun c => c.isHeld && !g.contains c.id
  let s := onCurrent (fun l => { l with cells := replaceCells (r.1 ++ placeFrom stop behind) l.cells }) s
  onComposer (fun c => { c with
    p := positionAfter stop behind, closedGroups := rest, issue := some ⟨r.1.map (·.id), 0, source⟩ }) s

/-- WORD_GROUP_RELEASE (R74): the first closed group is released where it stands. -/
def releaseNextGroup (s : State) : State :=
  match s.composer.closedGroups, s.composer.issue, mountedTable s with
  | g :: rest, none, some t =>
    let cells := groupCells s g
    if s.lines.current.composition = some .word && groupAllowed s cells && !wraps t s cells then
      releaseGroup t (groupStart cells) g rest s
    else s
  | _, _, _ => s

/-- WORD_WRAP (R75): the line end of a wrap, and the release of its group from L. -/
def wrapNextGroup (s : State) : State :=
  match s.composer.closedGroups, s.composer.issue, mountedTable s with
  | g :: rest, none, some t =>
    let cells := groupCells s g
    if s.lines.current.composition = some .word && groupAllowed s cells && wraps t s cells && canTake s &&
        s.lines.outgoing.isNone && 1 ≤ places s then
      let groups := (s.composer.openGroup, s.composer.closedGroups)
      let r := lineReturnOrder (s.streams.holder.getD .keyboard) s
      let line := r.1.lines.current
      let out := { line with cells := line.cells.filter (!·.isHeld), state := .printing, returnSerial := some r.2 }
      let s := beginLine (line.cells.filter (·.isHeld)) (some .word) (setOutgoing (some out) r.1)
      let s := onComposer (fun c => { c with cursor := 0, openGroup := groups.1, closedGroups := groups.2 }) s
      judge (releaseGroup t s.settings.left g rest s)
    else s
  | _, _, _ => s

/-! ## Issues (R74, R82) -/

/-- A cell is issued against the mounted table: `none` while the queue has no room for all its strikes; else the state, and
whether the cell was found not on the wheel (R74, R82). -/
def issueCell (t : Table) (c : Cell) (s : State) : Option (State × Nat) :=
  if t.has c.code then
    let jobs := strikeJobs t s.energy.impression c
    if places s < jobs.length then none
    else some (appendJobs jobs (mapCell c.id (fun x => x.issued jobs.length) s), 0)
  else some (mapCell c.id (fun x => { x.issued 0 with notOnWheel := true }) s, 1)

/-- The end of a group issue (R74, step 4): SKIPPED CHARACTERS, and the MOVE to P when it fits. -/
def finishIssue (s : State) : State :=
  match s.composer.issue with
  | some g =>
    if g.left = [] ∧ moveFits s then
      makeMove s.composer.p (sourceOf g.source)
        (skippedCharacters g.skipped (onComposer (fun c => { c with issue := none }) s))
    else s
  | none => s

/-- GROUP_CELL_ISSUE (R74, steps 3 and 4). -/
def issueGroupCell (s : State) : State :=
  match s.composer.issue, mountedTable s, s.correction.held with
  | some g, some t, [] =>
    match g.left with
    | [] => judge (finishIssue s)
    | id :: rest =>
      match (s.lines.current.cells.find? (·.id = id)).filter (·.isHeld) with
      | none => onComposer (fun c => { c with issue := some { g with left := rest } }) s
      | some c =>
        match issueCell t c s with
        | none => s
        | some r =>
          judge (finishIssue (onComposer (fun k => { k with issue := some ⟨rest, g.skipped + r.2, g.source⟩ }) r.1))
  | _, _, _ => s

/-- LINE_CELL_ISSUE (R82): the next cell of the outgoing line, and the RETURN after the last. -/
def issueLineCell (s : State) : State :=
  match s.composer.release, mountedTable s, s.lines.outgoing with
  | some r, some t, some l =>
    match l.cells.find? (·.isHeld) with
    | none => judge (finishRelease s)
    | some c =>
      match issueCell t c s with
      | none => s
      | some x =>
        judge (finishRelease (onComposer (fun k => { k with release := some ⟨r.skipped + x.2, r.source⟩ }) x.1))
  | _, _, _ => s

end Sys2Proof.Machine
end

