-- ==== Sys2Proof/Machine/Correct.lean ====
section
/-! DEFINITION. The correction unit: targets, checks, LIFT orders, the held list, CANCEL LIFTS (R126 to R136, R140). -/

namespace Sys2Proof.Machine

/-! ## Choosing the cells (R126 to R130) -/

/-- An eligible cell of DIRECT and WORD composition (R126). -/
def Cell.eligible (c : Cell) : Bool := c.state = .released || c.state = .printed || c.state = .held

/-- A cell that has reached the paper or its orders (R129). -/
def Cell.onPaper (c : Cell) : Bool := c.state = .released || c.state = .printed

/-- In WORD composition the last held cell is in SPELL HOLD, which stops CORRECT and WORD CORRECT (R126). -/
def stoppedBySpelling (m : Mode) (s : State) : Bool := m = .word && (lastHeld s).any (·.state = .spellHold)

/-- The target of CORRECT in DIRECT and WORD composition (R127). -/
def correctTarget (s : State) : List Cell :=
  let p := s.composer.p
  let candidates := (s.lines.current.cells.filter (·.eligible)).filter fun c =>
    (0 < p && c.spans (p - 1)) || (c.width = 0 && c.start = p)
  candidates.getLast?.toList

/-- Of two cells, the one with the greater end, the later of two equal ones. -/
def laterEnd (best : Option Cell) (c : Cell) : Option Cell :=
  match best with
  | none => some c
  | some b => if b.stop ≤ c.stop then some c else some b

/-- The targets of WORD CORRECT in DIRECT and WORD composition (R128). -/
def wordTargets (s : State) : List Cell :=
  let p := s.composer.p
  let cells := s.lines.current.cells.filter (·.eligible)
  match (cells.filter fun c => !c.isSpace && c.stop ≤ p).foldl laterEnd none with
  | none => []
  | some e =>
    let b := greatestEnd (cells.filter fun c => c.isSpace && c.stop ≤ e.start)
    cells.filter fun c => b ≤ c.start && c.stop ≤ p

/-- The cells before the cursor that WORD CORRECT deletes in LINE composition (R130). -/
def lineWordTargets (s : State) : List Cell :=
  let back := (s.lines.current.cells.take s.composer.cursor).reverse
  let spaces := back.takeWhile Cell.isSpace
  let word := (back.dropWhile Cell.isSpace).takeWhile (!Cell.isSpace ·)
  (spaces ++ word).reverse

/-- The targets of CORRECT (R127, R130). -/
def selectCorrect (m : Mode) (s : State) : List Cell :=
  match m with
  | .line => ((s.lines.current.cells.take s.composer.cursor).getLast?).toList
  | _ => if stoppedBySpelling m s then [] else correctTarget s

/-- The targets of WORD CORRECT (R128, R130). -/
def selectWord (m : Mode) (s : State) : List Cell :=
  match m with
  | .line => lineWordTargets s
  | _ => if stoppedBySpelling m s then [] else wordTargets s

/-- The targets of LINE CORRECT (R129, R130). -/
def selectLine (m : Mode) (s : State) : List Cell :=
  match m with
  | .line => []
  | _ => s.lines.current.cells.filter (·.onPaper)

/-! ## Strikes of a target and their LIFTs (R133, R134) -/

/-- The condition of a strike of a target (R133). -/
inductive Struck where
  | pending (o : Order)
  | fetched (o : Order)
  | standing (r : StrikeRecord)
deriving DecidableEq, Repr

/-- The strike of a cell for a role, by its condition; `none` for one the cell has not. -/
def struckBy (s : State) (c : Cell) (role : Role) : Option Struck :=
  match s.dispatch.orders.find? fun o => o.job.kind = .strike && o.job.cell = some c.id && o.job.role = some role with
  | some o => some (if o.fetched then .fetched o else .pending o)
  | none =>
    (s.correction.memory.find? fun r => r.cell = some c.id && r.role = some role && !r.pending).map .standing

/-- The strikes of a cell in processing order: UNDERLINE, BOLD, SECOND, MAIN (R133). -/
def cellStrikes (s : State) (c : Cell) : List Struck :=
  [Role.underline, Role.bold, Role.second, Role.main].filterMap (struckBy s c)

/-- The targets on the paper, the most recently typed first (R133). -/
def processed (targets : List Cell) : List Cell := (targets.filter (·.onPaper)).reverse

/-- The class of a LIFT (R113). -/
def liftClass (boost : Nat) (energy : Option Nat) : Option Nat := energy.map fun n => min 4 (n + boost)

/-- The LIFT of a strike (R134); none for a PENDING strike. -/
def liftJob (boost : Nat) : Struck → Option Job
  | .pending _ => none
  | .fetched o => some { o.job with
      kind := .lift, energy := liftClass boost o.job.energy, width := none, feed := none, source := .correction,
      link := some (.serial o.serial) }
  | .standing r => some
      { kind := .lift, target := r.position, petal := r.petal, second := r.second, energy := liftClass boost r.energy,
        wheel := r.wheel, width := none, feed := none, source := .correction, role := r.role, cell := r.cell,
        link := some (.record r.id r.serial) }

/-- The wheel of a strike that a LIFT would lift. -/
def Struck.liftWheel : Struck → Option (Option Nat)
  | .pending _ => none
  | .fetched o => some o.job.wheel
  | .standing r => some r.wheel

/-- The LIFTs of a cell, in order of making (R133). -/
def cellLifts (s : State) (c : Cell) : List Job := (cellStrikes s c).filterMap (liftJob s.energy.boost)

/-! ## The checks (R131) -/

/-- The first strike to lift that names another wheel than the mounted one (R131, check 3). -/
def otherWheel (s : State) (targets : List Cell) : Option (Option Nat) :=
  ((processed targets).flatMap (cellStrikes s)).findSome? fun x =>
    x.liftWheel.bind fun w => if w = some s.wheels.mounted then none else some w

/-- The first check that fails: its reason and the needed wheel ID (R131). -/
def checkCorrection (s : State) (targets : List Cell) : Option (Nat × Nat) :=
  if targets = [] then some (0, 63)
  else if targets.any fun c => c.onPaper && c.fixed then some (1, 63)
  else match otherWheel s targets with
    | some w => some (2, w.getD 63)
    | none => if s.signals.tape.asserted && (processed targets).any fun c => cellLifts s c ≠ [] then some (3, 63) else none

/-! ## Carrying out (R132 to R136) -/

/-- Appends the orders of a correction while places are free; the others wait in the held list (R135). -/
def appendCorrection (jobs : List Job) (s : State) : State :=
  let n := places s
  onCorrection (fun c => { c with held := jobs.drop n }) (appendJobs (jobs.take n) s)

/-- The strikes of the targets: PENDING ones withdrawn, recorded ones LIFT PENDING, cells LIFTING or removed (R133). -/
def withdrawStrikes (targets : List Cell) (s : State) : State :=
  let cells := processed targets
  let strikes := cells.flatMap (cellStrikes s)
  let withdrawn := s.dispatch.orders.filter fun o => !o.fetched && strikes.any (fun x => x = .pending o)
  let lifted := (cells.filter fun c => cellLifts s c ≠ []).map (·.id)
  let bare := (cells.filter fun c => cellLifts s c = []).map (·.id)
  let s := keepOrders (!withdrawn.contains ·) s
  let s := (withdrawn.filterMap (·.job.cell)).foldl (fun s id => mapCell id Cell.strikeGone s) s
  let s := mapRecords (fun r => strikes.any fun x => x = .standing r) (fun r => { r with pending := true }) s
  let s := mapCells (lifted.contains ·.id) (fun c => { c with state := .lifting }) s
  let tickets := ticketsOn ((allCells s).filter (lifted.contains ·.id))
  cancelTickets tickets (dropCells bare s)

/-- The least start among cells, `p` without any. -/
def leastOf (p : Nat) (cells : List Cell) : Nat :=
  match cells with
  | [] => p
  | c :: cs => cs.foldl (fun n x => min n x.start) c.start

/-- The held cells of a WORD line take provisional starts consecutively from a position; P is the end of the last (R105,
R136). A correction of cells on the paper while a group is being issued re-places the group's cells not yet issued too, and
their strikes are made from there: R136 speaks of the held cells left on the line, R38 and R74 of a placed start that such a
cell keeps (notes/assumptions/49.md). -/
def replaceHeld (x : Nat) (s : State) : State :=
  let held := s.lines.current.cells.filter (·.isHeld)
  onComposer (fun c => { c with p := positionAfter x held })
    (onCurrent (fun l => { l with cells := replaceCells (placeFrom x held) l.cells }) s)

/-- The orders of a correction follow: its LIFTs, and its MOVE unless P is unchanged, merged when it can be (R69, R135,
R136). -/
def appendLifts (lifts : List Job) (old p : Nat) (s : State) : State :=
  if p = old then appendCorrection lifts s
  else if lifts = [] ∧ tailIsMove s then retargetTail p s
  else appendCorrection (lifts ++ [Job.plain .move p .keyboard none]) s

/-- A correction in DIRECT or WORD composition (R132 to R136). What it does to the cells of a group being issued is
notes/assumptions/49.md. -/
def carryOut (m : Mode) (targets : List Cell) (s : State) : State :=
  let old := s.composer.p
  let lifts := (processed targets).flatMap (cellLifts s)
  let heldIds := (targets.filter (·.state = .held)).map (·.id)
  let onPaper := targets.any (·.onPaper)
  let s := if heldIds = [] then s else deleteHeld heldIds s
  if m = .word ∧ onPaper = false then onComposer (fun c => { c with p := firstStart c.p targets }) s
  else
    let p := leastOf old targets
    let s := appendLifts lifts old p (onComposer (fun c => { c with p := p }) (withdrawStrikes targets s))
    if m = .word then replaceHeld p s else s

/-- A correction function at the head of the KEYBOARD stream (R126, R131); `none` while a word it ends is not captured. -/
def composeCorrection (select : Mode → State → List Cell) (s : State) : Option State :=
  let m := compositionFor s .keyboard
  let s := takeHead .keyboard s
  let targets := select m s
  match checkCorrection s targets with
  | some f => some (cannotLift f.1 f.2 (requestBeep .long s))
  | none =>
    if m = .line then removeLineCells (targets.map (·.id)) (s.composer.cursor - targets.length) s
    else some (carryOut m targets s)

/-- The next order of the held list is appended when a place is free (R69, R135); `none` when there is none, or no place. A MOVE
left without its LIFTs merges into a PENDING MOVE at the tail (R140 step 3, by R69; notes/assumptions/48.md). -/
def nextHeldOrder (s : State) : Option State :=
  match s.correction.held with
  | [] => none
  | j :: js =>
    if places s < 1 then none
    else
      let s := onCorrection (fun c => { c with held := js }) s
      some (if j.kind = .move then makeMove j.target j.source s else appendJob j s)

/-! ## CANCEL LIFTS (R140) -/

/-- The records that removed LIFTs named stand again. -/
def restoreRecords (jobs : List Job) : State → State :=
  mapRecords (fun r => jobs.any fun j => j.recordId = some r.id) fun r => { r with pending := false }

/-- CANCEL LIFTS (R140): the state, and how many LIFTs were removed. What a held MOVE then does is notes/assumptions/48.md. -/
def cancelLifts (s : State) : State × Nat :=
  let queued := (s.dispatch.orders.filter fun o => !o.fetched && o.job.isLift).map (·.job)
  let held := s.correction.held.filter (·.isLift)
  let s := keepHeld (!·.isLift) (keepOrders (fun o => o.fetched || !o.job.isLift) s)
  let s := restoreRecords (queued ++ held) s
  let s := (nextHeldOrder s).getD s
  let s := judgeAllLifting s
  (judge (onCorrection (fun c => { c with wrongWheel := none }) s), queued.length + held.length)

/-- The CANCEL LIFTS answer's count byte; above 255 the spec gives none (notes/assumptions/17.md). -/
def countByte (n : Nat) : Byte := if n ≤ 255 then byte n else Config.largeCount n

end Sys2Proof.Machine
end

