-- ==== Sys2Proof/Machine/ComposeRows.lean ====
section
/-! DEFINITION. Meanings: the entries the composer takes, group and line releases (chapters 4, 7). -/

namespace Sys2Proof.Machine

/-- COMPOSE_PRINTABLE (R67). -/
def execComposePrintable (src : Stream) (s : State) : Host.Outcome State Fault Refusal := event (composePrintable src) s

/-- BACKSPACE (R70). -/
def execBackspace (src : Stream) (s : State) : Host.Outcome State Fault Refusal :=
  event (entry src 0x08 (composeBackspace src)) s

/-- TAB (R70). -/
def execTab (src : Stream) (s : State) : Host.Outcome State Fault Refusal := event (flushing src 0x09 (composeTab src)) s

/-- INDEX (R84): +2 half-lines. -/
def execIndex (src : Stream) (s : State) : Host.Outcome State Fault Refusal := event (flushing src 0x0A (composeFeed src 2)) s

/-- REVERSE_INDEX (R84): −2 half-lines. -/
def execReverseIndex (src : Stream) (s : State) : Host.Outcome State Fault Refusal :=
  event (flushing src 0x0B (composeFeed src (-2))) s

/-- HALF_UP (R84): −1 half-line. -/
def execHalfUp (src : Stream) (s : State) : Host.Outcome State Fault Refusal :=
  event (flushing src 0x0E (composeFeed src (-1))) s

/-- HALF_DOWN (R84): +1 half-line. -/
def execHalfDown (src : Stream) (s : State) : Host.Outcome State Fault Refusal :=
  event (flushing src 0x0F (composeFeed src 1)) s

/-- RETURN (R81). -/
def execCarriageReturn (src : Stream) (s : State) : Host.Outcome State Fault Refusal := event (composeReturn src) s

/-- BOLD_ON (R63). -/
def execBoldOn (src : Stream) (s : State) : Host.Outcome State Fault Refusal :=
  event (entry src 0x10 (composeAttr src fun a => { a with bold := true })) s

/-- BOLD_OFF (R63). -/
def execBoldOff (src : Stream) (s : State) : Host.Outcome State Fault Refusal :=
  event (entry src 0x11 (composeAttr src fun a => { a with bold := false })) s

/-- UNDERLINE_ON (R63). -/
def execUnderlineOn (src : Stream) (s : State) : Host.Outcome State Fault Refusal :=
  event (entry src 0x12 (composeAttr src fun a => { a with underline := true })) s

/-- UNDERLINE_OFF (R63). -/
def execUnderlineOff (src : Stream) (s : State) : Host.Outcome State Fault Refusal :=
  event (entry src 0x13 (composeAttr src fun a => { a with underline := false })) s

/-- CORRECT (R127). -/
def execCorrect (s : State) : Host.Outcome State Fault Refusal :=
  event (entry .keyboard 0x14 (composeCorrection selectCorrect)) s

/-- WORD_CORRECT (R128). -/
def execWordCorrect (s : State) : Host.Outcome State Fault Refusal :=
  event (entry .keyboard 0x15 (composeCorrection selectWord)) s

/-- LINE_CORRECT (R129). -/
def execLineCorrect (s : State) : Host.Outcome State Fault Refusal :=
  event (entry .keyboard 0x16 (composeCorrection selectLine)) s

/-- RELOCATE (R70). -/
def execRelocate (s : State) : Host.Outcome State Fault Refusal := event (flushing .keyboard 0x17 composeRelocate) s

/-- CURSOR_LEFT (R78). -/
def execCursorLeft (s : State) : Host.Outcome State Fault Refusal := event (entry .keyboard 0x18 composeCursorLeft) s

/-- CURSOR_RIGHT (R78). -/
def execCursorRight (s : State) : Host.Outcome State Fault Refusal := event (entry .keyboard 0x19 composeCursorRight) s

/-- DELETE (R78). -/
def execDelete (s : State) : Host.Outcome State Fault Refusal := event (entry .keyboard 0x1A composeDelete) s

/-- MARGIN_RELEASE (R71). -/
def execMarginRelease (s : State) : Host.Outcome State Fault Refusal := event (entry .keyboard 0x1B composeMarginRelease) s

/-- CENTRE (R79). -/
def execCentre (src : Stream) (s : State) : Host.Outcome State Fault Refusal :=
  event (entry src 0x1C (composeLayout src .centre)) s

/-- FLUSH_RIGHT (R79). -/
def execFlushRight (src : Stream) (s : State) : Host.Outcome State Fault Refusal :=
  event (entry src 0x1D (composeLayout src .flush)) s

/-- CLEAR_LINE (R80). -/
def execClearLine (s : State) : Host.Outcome State Fault Refusal := event (entry .keyboard 0x1E composeClearLine) s

/-- WORD_GROUP_RELEASE (R74). -/
def execWordGroupRelease (s : State) : Host.Outcome State Fault Refusal := event releaseNextGroup s

/-- WORD_WRAP (R75). -/
def execWordWrap (s : State) : Host.Outcome State Fault Refusal := event wrapNextGroup s

/-- GROUP_CELL_ISSUE (R74). -/
def execGroupCellIssue (s : State) : Host.Outcome State Fault Refusal := event issueGroupCell s

/-- LINE_CELL_ISSUE (R82). -/
def execLineCellIssue (s : State) : Host.Outcome State Fault Refusal := event issueLineCell s

end Sys2Proof.Machine
end

