-- ==== Sys2Proof/Machine/DisplayUnit.lean ====
section
/-! DEFINITION. The display unit: columns, window, frames and transfers (R166 to R178). -/

namespace Sys2Proof.Machine

/-- A column of the line view (R167): where it starts, the id of the cell that formed it, and its group. -/
structure Column where
  start : Nat
  key   : Nat
  group : List Cell
deriving DecidableEq, Repr

/-- A column cell: width above 0 and no OVERSTRIKE (R167). -/
def Cell.isColumn (c : Cell) : Bool := 0 < c.width && !c.overstrike

/-- Of two cells, the one with the lesser start, the first when they are equal (notes/assumptions/45.md). -/
def leastStart (best : Option Cell) (c : Cell) : Option Cell :=
  match best with
  | none => some c
  | some b => if c.start < b.start then some c else some b

/-- The column cell an overlay cell joins: of those it overlaps, the one with the least start (R167, step 2). -/
def joined (columnCells : List Cell) (v : Cell) : Option Cell := (columnCells.filter v.overlaps).foldl leastStart none

/-- Puts a column in its place by start, then by the order of typing (R167), two column cells of one start included
(notes/assumptions/45.md). -/
def insertColumn (x : Column) : List Column → List Column
  | [] => [x]
  | y :: ys => if y.start < x.start ∨ (y.start = x.start ∧ y.key < x.key) then y :: insertColumn x ys else x :: y :: ys

/-- The columns of a line (R167): its shown cells are those not LIFTING. -/
def columns (cells : List Cell) : List Column :=
  let shown := cells.filter (·.state ≠ .lifting)
  let cs := shown.filter Cell.isColumn
  let vs := shown.filter (!Cell.isColumn ·)
  let own := cs.map fun c => (⟨c.start, c.id, c :: vs.filter fun v => (joined cs v).any (·.id = c.id)⟩ : Column)
  let lone := (vs.filter fun v => (joined cs v).isNone).map fun v => (⟨v.start, v.id, [v]⟩ : Column)
  (own ++ lone).foldr insertColumn []

/-- Of two cells, the one typed later. -/
def laterTyped (best : Option Cell) (c : Cell) : Option Cell :=
  match best with
  | none => some c
  | some b => if b.id < c.id then some c else some b

/-- The code a column shows: that of the most recently typed cell of its group (R168). -/
def Column.code (x : Column) : Byte :=
  match x.group.foldl laterTyped none with
  | some c => c.code
  | none => spaceCode

/-- A column blinks when its group holds an UNKNOWN cell (R171). -/
def Column.blinks (x : Column) : Bool := x.group.any (·.mark = .unknown)

/-- The cursor index: the columns that start before P (R169). A column of a cell of width 0 at the end of a LINE line starts at P
and is not counted (notes/assumptions/54.md). -/
def cursorIndex (cols : List Column) (p : Nat) : Nat := cols.countP (·.start < p)

/-- The window start brought into step with the cursor index (R170). -/
def windowStart (ws ci : Nat) : Nat :=
  if ci < ws + 4 then ci - 4
  else if ws + 27 < ci then ci - 27
  else ws

/-- Pads a list of codes with SPACE to 32. -/
def padded (codes : List Byte) : List Byte := codes.take 32 ++ List.replicate (32 - codes.length) spaceCode

/-- The 40 bytes of a frame (R203). -/
def frameBytes (cursor : Byte) (codes : List Byte) (blink segments : List Bool) : List Byte :=
  [0x1F, cursor] ++ padded codes ++ bytesOf 4 (bitsNumber blink) ++ bytesOf 2 (bitsNumber segments)

/-- The message shown, if any: the keyboard slot before the interface slot (R166, R174). -/
def shownMessage (d : Display) : Option Message :=
  match d.kbSlot with
  | some m => some m
  | none => d.ifSlot

/-- The frame of a snapshot (R166 to R172). -/
def snapshotBytes (s : State) : List Byte :=
  match shownMessage s.display with
  | some m => frameBytes 0xFF m.codes (List.replicate 32 false) (segments s)
  | none =>
    let cols := columns s.lines.current.cells
    let ci := cursorIndex cols s.composer.p
    let ws := windowStart s.display.ws ci
    let window := (cols.drop ws).take 32
    frameBytes (byte (ci - ws)) (window.map Column.code)
      (window.map Column.blinks ++ List.replicate (32 - window.length) false) (segments s)

/-- The window start a snapshot leaves: unchanged in a message view (R170). -/
def snapshotWindow (s : State) : Nat :=
  match shownMessage s.display with
  | some _ => s.display.ws
  | none => windowStart s.display.ws (cursorIndex (columns s.lines.current.cells) s.composer.p)

/-- A snapshot is taken and its transfer begins (R176): the first byte waits, and the busy wait timer runs while DBUSY is
high (R177). -/
def snapshot (dbusy : Bool) (s : State) : State :=
  let bytes := snapshotBytes s
  let ws := snapshotWindow s
  onDisplay (fun d => { d with
    ws := ws, dirty := false, phase := .sending, frame := some ⟨bytes, 0⟩, busyWait := dbusy, retryTimer := false,
    dbusy := dbusy }) s

/-- The next byte is strobed with DBUSY low; `dbusy` is its level after the pulse. After byte 39 the transfer is complete
(R177). -/
def sendByte (dbusy : Bool) (s : State) : State :=
  match s.display.phase, s.display.frame with
  | .sending, some f =>
    let sent := fun d : Display => { d with data := f.bytes[f.next]?, dbusy := dbusy }
    if f.next < 39 then
      onDisplay (fun d => { sent d with frame := some ⟨f.bytes, f.next + 1⟩, busyWait := dbusy }) s
    else onDisplay (fun d => { sent d with phase := .idle, frame := none, busyWait := false }) s
  | _, _ => s

/-- The busy wait timer reaches 50 ms: the frame is abandoned, and DISPLAY FAULT names the byte that waited (R177). -/
def abandonFrame (s : State) : State :=
  match s.display.phase, s.display.frame with
  | .sending, some f =>
    if s.display.busyWait then
      raise .displayFault [byte f.next]
        (onDisplay (fun d => { d with phase := .retryWait, frame := none, busyWait := false, retryTimer := true }) s)
    else s
  | _, _ => s

end Sys2Proof.Machine
end

