-- ==== Sys2Proof/Machine/DisplayRows.lean ====
section
/-! DEFINITION. Meanings: the display port (R176 to R178). -/

namespace Sys2Proof.Machine

/-- DISPLAY_SNAPSHOT (R176), with the port IDLE and the dirty flag set. -/
def execDisplaySnapshot (dbusy : Bool) (s : State) : Host.Outcome State Fault Refusal :=
  event (fun s => if s.display.phase = .idle ∧ s.display.dirty then snapshot dbusy s else s) s

/-- DISPLAY_BYTE_SENT (R177). -/
def execDisplayByteSent (dbusy : Bool) (s : State) : Host.Outcome State Fault Refusal := event (sendByte dbusy) s

/-- BUSY_WAIT_EXPIRY (R177). -/
def execBusyWaitExpiry (s : State) : Host.Outcome State Fault Refusal := event abandonFrame s

/-- RETRY_TIMER_EXPIRY (R178). -/
def execRetryTimerExpiry (dbusy : Bool) (s : State) : Host.Outcome State Fault Refusal :=
  event (fun s => if s.display.phase = .retryWait ∧ s.display.retryTimer then snapshot dbusy s else s) s

end Sys2Proof.Machine
end

