-- ==== Sys2Proof/Machine/Wheels.lean ====
section
/-! DEFINITION. The wheel table store: slots, wheel changes, NO TABLE and re-resolution (chapter 1). -/

namespace Sys2Proof.Machine

/-! ## Re-resolution (R15, R16, R116) -/

/-- What re-resolution does with an order: kept, perhaps updated; removed because its code is no longer COMPOSITE (R15);
removed because its code is not on the wheel (R16). -/
inductive StrikeFate where
  | kept (o : Order)
  | lost
  | skipped
deriving DecidableEq, Repr

/-- The fate of an order of the queue under a table (R15, R16): only PENDING STRIKE orders change. -/
def strikeFate (t : Table) (s : State) (o : Order) : StrikeFate :=
  if o.fetched ∨ o.job.kind ≠ .strike then .kept o
  else match o.job.cell.bind (findCell s), o.job.role with
    | some c, some r =>
      if t.has c.code then
        match t.resolve c.code r with
        | some x =>
          let cls := adjustedClass s.energy.impression x.2.2
          .kept { o with
            cost := orderCost s.energy .strike (some cls) o.travel
            job := { o.job with petal := x.1, second := x.2.1, energy := some cls, wheel := some t.header.wheelId } }
        | none => .lost
      else .skipped
    | _, _ => .kept o

/-- The order a fate leaves in the queue. -/
def StrikeFate.order? : StrikeFate → Option Order
  | .kept o => some o
  | _ => none

/-- Re-resolution of the PENDING STRIKE orders against the mounted table (R15, R16). -/
def reResolve (s : State) : State :=
  match mountedTable s with
  | none => s
  | some t =>
    let orders := s.dispatch.orders
    let gone := orders.filter fun o => (strikeFate t s o).order?.isNone
    let skippedIds := ((orders.filter fun o => strikeFate t s o = .skipped).filterMap (·.job.cell)).dedup
    let kept := orders.filterMap fun o => (strikeFate t s o).order?
    let s := onDispatch (fun d => { d with orders := kept }) s
    let s := dropLinked (gone.map (·.serial)) s
    let s := (gone.filterMap (·.job.cell)).foldl (fun s id => mapCell id Cell.strikeGone s) s
    let s := mapCells (skippedIds.contains ·.id) (fun c => { c with notOnWheel := true }) s
    let s := (gone.filterMap (·.job.cell)).foldl (fun s id => judgeLifting id s) s
    skippedCharacters skippedIds.length s

/-! ## Wheel changes (R11, R13, R14) -/

/-- NO WHEEL TABLE with the mounted ID, when there is no mounted table (R13). -/
def noTableBegins (s : State) : State :=
  if (mountedTable s).isNone then raise .noWheelTable [byte s.wheels.mounted] s else s

/-- A report of a wheel ID: nothing when it is the mounted one, a wheel change otherwise (R11, R14). -/
def reportWheel (id : Nat) (s : State) : State :=
  if id = s.wheels.mounted then s
  else
    let old := s.wheels.mounted
    let s := raise .wheelChanged [byte old, byte id] (onWheels (fun w => { w with mounted := id }) s)
    noTableBegins (reResolve s)

/-! ## Slots (R5 to R9) -/

/-- The slot of a number. -/
def slotAt (s : State) (n : Nat) : Slot := s.wheels.slots.getD n .empty

/-- Writes a slot. -/
def setSlot (n : Nat) (x : Slot) : State → State := onWheels fun w => { w with slots := w.slots.set n x }

/-- Replaces a slot; if it was the mounted table, NO TABLE begins (R6, R9, R13). -/
def unloadSlot (n : Nat) (x : Slot) (s : State) : State :=
  let after := setSlot n x s
  if (mountedTable s).isSome then noTableBegins after else after

/-- A header, each field in its range (R5, R6). -/
def headerOf (wheel native underscore space : Nat) : Option WheelHeader :=
  match Pitch.ofNumber native with
  | some p =>
    if wheel ≤ 62 ∧ underscore ≤ 95 ∧ 2 ≤ space ∧ space ≤ 6 then some ⟨wheel, p, underscore, space⟩ else none
  | none => none

/-- HEADER (R6), with the offerable flag judged (R93): the form is checked before the values (notes/assumptions/46.md). -/
def loadHeader (payload : List Byte) (s : State) : State × Answer :=
  match payload with
  | [_, slot, wheel, native, underscore, space] =>
    if 3 < slot.toNat then answered .badValue s
    else match headerOf wheel.toNat native.toNat underscore.toNat space.toNat with
      | none => answered .badValue s
      | some h =>
        ok (judge (unloadSlot slot.toNat (.loading h (List.replicate 224 (placeholder h)) (List.replicate 224 false)) s))
  | _ => answered .badRequest s

/-- An entry from its three bytes (R203); `none` when a field is outside its range (R7). Bit 2 of the second byte, to which R203
gives no meaning, is ignored and not stored (notes/assumptions/25.md). -/
def entryOf (b0 b1 b2 : Byte) : Option WheelEntry :=
  let petal : Option Nat := if b0 = 0xFF then none else some b0.toNat
  let width := b1.toNat / 32
  let cls := b1.toNat / 8 % 4 + 1
  match EntryKind.ofNumber (b1.toNat % 4) with
  | none => none
  | some k =>
    if (b0 ≠ 0xFF ∧ 95 < b0.toNat) ∨ width < 2 ∨ 6 < width ∨ (k = .composite ∧ 95 < b2.toNat) then none
    else some { petal := petal, width := width, energy := cls, kind := k,
                second := if k = .composite then some b2.toNat else none }

/-- The entries of a run of bytes. -/
def entriesOf : List Byte → Option (List WheelEntry)
  | [] => some []
  | a :: b :: c :: bs =>
    match entryOf a b c, entriesOf bs with
    | some e, some es => some (e :: es)
    | _, _ => none
  | _ => none

/-- Overwrites consecutive places of a list from an index on. -/
def overwrite {α : Type} : Nat → List α → List α → List α
  | _, [], ys => ys
  | i, x :: xs, ys => overwrite (i + 1) xs (ys.set i x)

/-- ENTRIES (R7): the checks in the order in which the rule lists them (notes/assumptions/46.md). -/
def loadEntries (payload : List Byte) (s : State) : State × Answer :=
  match payload with
  | _ :: slot :: first :: count :: data =>
    if data.length ≠ 3 * count.toNat then answered .badRequest s
    else if 3 < slot.toNat then answered .badValue s
    else match slotAt s slot.toNat with
      | .loading h es ws =>
        if count = 0 ∨ 12 < count.toNat ∨ first.toNat < 0x20 ∨ 256 < first.toNat + count.toNat then answered .badValue s
        else match entriesOf data with
          | none => answered .badValue s
          | some new =>
            let i := first.toNat - 0x20
            ok (setSlot slot.toNat (.loading h (overwrite i new es) (overwrite i (new.map fun _ => true) ws)) s)
      | _ => answered .notNow s
  | _ => answered .badRequest s

/-- Empties every other slot LOADED with an ID (R8, step 1). -/
def emptyOthers (n id : Nat) (slots : List Slot) : List Slot :=
  (List.range slots.length).zipWith (fun i x => if i ≠ n ∧ (x.tableFor id).isSome then .empty else x) slots

/-- FINAL (R8), with the offerable flag judged (R93): the form first, then the checks in the order in which the rule lists them
(notes/assumptions/46.md). -/
def loadFinal (payload : List Byte) (s : State) : State × Answer :=
  match payload with
  | [_, slot, expected] =>
    if 3 < slot.toNat then answered .badValue s
    else match slotAt s slot.toNat with
      | .loading h es ws =>
        if expected.toNat ≠ ws.countP id then answered .badValue s
        else
          let s := onWheels (fun w => { w with slots := (emptyOthers slot.toNat h.wheelId w.slots).set slot.toNat (.loaded h es) }) s
          ok (if h.wheelId = s.wheels.mounted then judge (reResolve s) else s)
      | _ => answered .notNow s
  | _ => answered .badRequest s

/-- ERASE WHEEL TABLE (R9), with the offerable flag judged (R93): the form is checked before the values
(notes/assumptions/46.md). -/
def eraseTable (payload : List Byte) (s : State) : State × Answer :=
  match payload with
  | [slot] => if 3 < slot.toNat then answered .badValue s else ok (judge (unloadSlot slot.toNat .empty s))
  | _ => answered .badRequest s

end Sys2Proof.Machine
end

