-- ==== Sys2Proof/Machine/Records.lean ====
section
/-! DEFINITION. The formats the part sends: order, cell, notice and status records, GET values (R198, R203). -/

namespace Sys2Proof.Machine

/-! ## The order record (R86, R203) -/

/-- The index of a cell in a list. -/
def cellIndex (id : Nat) (cells : List Cell) : Option Nat := cells.findIdx? (·.id = id)

/-- The cell reference: the line, then the cell's index in it; 0xFF twice when absent (notes/assumptions/28.md). -/
def cellReference (s : State) : Option Nat → List Byte
  | none => [0xFF, 0xFF]
  | some id =>
    match cellIndex id s.lines.current.cells, s.lines.outgoing.bind fun l => cellIndex id l.cells with
    | some i, _ => [0, byte i]
    | none, some i => [1, byte i]
    | none, none => [0xFF, 0xFF]

/-- The feed: signed, 0x80 when absent. -/
def feedByte : Option Int → Byte
  | some f => BitVec.ofInt 8 f
  | none => 0x80

/-- The lift link: its type and its serial; the serial is 0xFF when absent (notes/assumptions/28.md). -/
def linkBytes : Option LiftLink → List Byte
  | none => [0, 0xFF]
  | some (.record _ n) => [1, n]
  | some (.serial n) => [2, n]

/-- The 20-byte order record (R203). -/
def orderRecord (s : State) (o : Order) : List Byte :=
  [o.serial, byte o.job.kind.number, byte (bit o.fetched)] ++ bytesOf 2 o.job.target ++
    [absentByte o.job.petal, absentByte o.job.second, byte (o.job.energy.getD 0), absentByte o.job.wheel,
     absentByte o.job.width, feedByte o.job.feed] ++ bytesOf 2 o.travel ++
    [byte o.cost, byte o.job.source.number, absentByte (o.job.role.map Role.number)] ++ cellReference s o.job.cell ++
    linkBytes o.job.link

/-! ## Cell and notice records (R203) -/

/-- The 9-byte cell record. -/
def cellRecord (c : Cell) : List Byte :=
  [c.code] ++ bytesOf 2 c.start ++ [byte c.width, byte c.extra,
    withUnassigned 2 0x18 (byte (bit c.bold * 128 + bit c.underline * 64 + bit (c.source = .interface) * 32 +
      bit c.overstrike * 4 + bit c.fixed * 2 + bit c.notOnWheel)),
    withUnassigned 3 0x88 (byte (c.state.number * 16 + c.mark.number)), c.ticket.getD 0xFF,
    withUnassigned 4 0x78 (byte (bit c.ticket.isSome * 128 + c.outstanding))]

/-- The notice record. -/
def noticeRecord (n : Notice) : List Byte := [byte n.kind.number, byte n.count, byte n.detail.length] ++ n.detail

/-! ## Sense levels and latches (R203) -/

/-- The filtered levels, two bits an input, COVER high. -/
def levelsByte (g : Signals) : Byte :=
  byte (g.cover.level.number * 64 + g.paper.level.number * 16 + g.ribbon.level.number * 4 + g.tape.level.number)

/-- The latches in bits 3 to 0, in the same order. -/
def latchesByte (g : Signals) : Byte :=
  withUnassigned 5 0xF0 (byte (bit g.cover.latch * 8 + bit g.paper.latch * 4 + bit g.ribbon.latch * 2 + bit g.tape.latch))

/-! ## The status record (R198, R203) -/

/-- The states of the four slots, two bits a slot, slot 0 high. -/
def slotStates (s : State) : Byte :=
  byte ((slotAt s 0).number * 64 + (slotAt s 1).number * 16 + (slotAt s 2).number * 4 + (slotAt s 3).number)

/-- The 32-byte status record of READ STATUS on a link. -/
def statusRecord (s : State) (st : Station) : List Byte :=
  [byte (holderNumber s.streams.holder),
   byte (bit s.streams.takeover * 128 + bit s.streams.lapsePending * 64 + s.streams.pageHold.number),
   byte s.streams.typeAhead.length] ++ bytesOf 2 s.streams.interfaceQ.length ++ [byte s.streams.divertQ.length] ++
  [byte s.dispatch.state.number] ++ bytesOf 2 s.dispatch.c ++
  [byte s.dispatch.orders.length, byte (fetchedCount s), byte s.correction.held.length] ++
  [byte s.energy.level, byte s.energy.capacity, byte s.correction.memory.length] ++
  [byte s.spelling.dictState.number, byte s.spelling.queue.length] ++
  (match s.spelling.bucketCount with
    | some n => bytesOf 2 n
    | none => [Config.unassigned 8, Config.unassigned 9]) ++
  (match s.spelling.wordCount with
    | some n => bytesOf 3 n
    | none => [Config.unassigned 10, Config.unassigned 11, Config.unassigned 12]) ++
  [byte s.spelling.overflow, byte s.spelling.userWords.length] ++
  [byte s.display.phase.number, levelsByte s.signals, latchesByte s.signals] ++
  [byte (linkOf s st).overruns, byte s.wheels.mounted, slotStates s, Config.steppingByte s.service.stepping s.service.credit,
   Config.layoutByte s.lines.current.layout.number (s.lines.current.composition.map Mode.number)]

/-! ## GET (R198, R203) -/

/-- A wheel table entry in its three bytes. -/
def entryBytes (e : WheelEntry) : List Byte :=
  [absentByte e.petal, withUnassigned 1 0x04 (byte (e.width * 32 + (e.energy - 1) * 8 + e.kind.number)), absentByte e.second]

/-- The wheel slot item: state and header. -/
def slotItem : Slot → List Byte
  | .empty => [0, 0xFF, 0xFF, 0xFF, 0xFF]
  | .loading h _ _ => [1, byte h.wheelId, byte h.native.number, byte h.underscore, byte h.space]
  | .loaded h _ => [2, byte h.wheelId, byte h.native.number, byte h.underscore, byte h.space]

/-- The entries of a slot; `none` for an EMPTY one. -/
def Slot.entries? : Slot → Option (List WheelEntry)
  | .empty => none
  | .loading _ es _ => some es
  | .loaded _ es => some es

/-- The COMPOSITION item. -/
def compositionItem (c : Settings) : List Byte :=
  allPresent 10 ++ [byte c.kbMode.number, byte c.ifMode.number, byte (bit c.autoReturn), byte c.lineSpacing,
    byte c.pitch.number] ++ bytesOf 2 c.left ++ bytesOf 2 c.right ++ [byte c.hotZone, byte c.xmax, byte c.layout.number]

/-- The STREAMS item. -/
def streamsItem (t : Streams) : List Byte :=
  allPresent 4 ++ [byte t.kbPolicy.number, byte t.ifPolicy.number] ++ bytesOf 2 t.lapseTime ++ [byte t.roomThreshold]

/-- The ENERGY item. -/
def energyItem (e : Energy) : List Byte :=
  allPresent 10 ++ [byte e.capacity, byte e.cost1, byte e.cost2, byte e.cost3, byte e.cost4, byte e.surcharge, byte e.boost,
    byte e.refill, byte (bit e.travelCharge), byte e.impression.number]

/-- The SPELLING item. -/
def spellingItem (p : Spelling) : List Byte :=
  allPresent 5 ++ [byte p.kbUnknown.number, byte p.ifUnknown.number, byte (bit p.enable), byte p.rate.number, byte p.device]

/-- The SIGNALS item. -/
def signalsItem (g : Signals) : List Byte :=
  allPresent 6 ++ [byte g.filterTime, byte g.tone] ++ g.lamps.map fun l => byte l.function.number

/-- The SKIP RULE item. -/
def skipRuleItem (n : Byte) (r : SkipRule) : List Byte :=
  [n] ++ allPresent 5 ++ [byte (bit r.enabled), byte r.minLen, byte r.maxLen, byte r.pattern.number, byte (bit r.invert)]

/-- The COUNTER item. -/
def counterItem (c : Counter) : List Byte :=
  bytesOf 4 c.value ++ [byte (bit c.overflow), byte c.measure.number, c.kindMask, c.kindMatch, c.sourceMask, c.sourceMatch]

/-- Kinds that are raised directly, numbered (R199). -/
def isDirect (n : Nat) : Bool := n = 6 || n = 9 || n = 10 || n = 11 || n = 15

/-- The NOTICE ROUTE item. -/
def routeItem (n : Byte) (r : Route) : List Byte :=
  [n] ++ allPresent 2 ++
    [if isDirect n.toNat then 0xFF else byte (bit r.keyboard + bit r.mechanism * 2 + bit r.interface * 4),
     byte r.kbPriority, byte r.mechPriority, byte r.ifPriority]

/-- The LAMPS item: bit n is the manual state of lamp n. -/
def lampsItem (ls : List Lamp) : Byte :=
  withUnassigned 7 0xF0 (byte (ls.foldr (fun l n => bit l.manual + 2 * n) 0))

/-- An OK answer with a value, the state unchanged. -/
def value (bs : List Byte) (s : State) : State × Answer := (s, ⟨.ok, bs⟩)

/-- An item without an index. -/
def plainItem (index bs : List Byte) (s : State) : State × Answer :=
  if index = [] then value bs s else answered .badRequest s

/-- An item with a one-byte index: `f` is absent outside the item's range, and absent within for an empty place. -/
def indexedItem (index : List Byte) (f : Byte → Option (Option (List Byte))) (s : State) : State × Answer :=
  match index with
  | [i] => match f i with
    | none => answered .badValue s
    | some none => answered .none_ s
    | some (some bs) => value bs s
  | _ => answered .badRequest s

/-- An element of a list of fixed size as an indexed item. -/
def inRange (i : Byte) (n : Nat) (bs : Option (List Byte)) : Option (Option (List Byte)) :=
  if i.toNat < n then some bs else none

/-- GET (R198): the item is checked before the length of its index, and that before the values (notes/assumptions/46.md). -/
def getItem (payload : List Byte) (s : State) : State × Answer :=
  match payload with
  | [] => answered .badRequest s
  | item :: ix =>
    match item.toNat with
    | 0 => indexedItem ix (fun c => some (some [byte (classOf s c).number, (classEntry s c).fold])) s
    | 1 => indexedItem ix (fun n => inRange n 4 (some (slotItem (slotAt s n.toNat)))) s
    | 2 => match ix with
      | [n, c] =>
        if 3 < n.toNat ∨ c.toNat < 0x20 then answered .badValue s
        else match (slotAt s n.toNat).entries? with
          | none => answered .none_ s
          | some es => match es[c.toNat - 0x20]? with
            | none => answered .none_ s
            | some e => value (entryBytes e) s
      | _ => answered .badRequest s
    | 3 => plainItem ix (compositionItem s.settings) s
    | 4 => plainItem ix (streamsItem s.streams) s
    | 5 => plainItem ix (energyItem s.energy) s
    | 6 => plainItem ix (spellingItem s.spelling) s
    | 7 => plainItem ix (signalsItem s.signals) s
    | 8 => plainItem ix [byte (bit s.service.stepping)] s
    | 9 => plainItem ix (byte s.settings.tabs.length :: (s.settings.tabs.map (bytesOf 2)).flatten) s
    | 10 => plainItem ix ([byte s.dispatch.homeInterval] ++ bytesOf 2 s.dispatch.homeCount ++ [byte (bit s.dispatch.homeDue)]) s
    | 11 => indexedItem ix (fun n => inRange n 4 (s.spelling.skipRules[n.toNat]?.map (skipRuleItem n))) s
    | 12 => indexedItem ix (fun n => inRange n 128 (s.spelling.userWords[n.toNat]?.map fun w => byte w.length :: w)) s
    | 13 => indexedItem ix (fun n => inRange n 2 (some
        (if n = 0 then bytesOf 3 s.service.ribbon ++ bytesOf 3 s.service.ribbonThreshold
         else bytesOf 3 s.service.tape ++ bytesOf 3 s.service.tapeThreshold))) s
    | 14 => indexedItem ix (fun n => inRange n 4 (s.service.counters[n.toNat]?.map counterItem)) s
    | 15 => plainItem ix [lampsItem s.signals.lamps] s
    | 16 => indexedItem ix (fun n =>
        if 1 ≤ n.toNat ∧ n.toNat ≤ 17 then some (s.notices.routes[n.toNat - 1]?.map (routeItem n)) else none) s
    | _ => answered .badValue s

/-! ## READ LINE, READ STATUS (R198) -/

/-- The READ LINE answer for a line. -/
def lineAnswer (number first : Byte) (l : Line) : List Byte :=
  let records := (l.cells.drop first.toNat).take 4
  [number, byte l.cells.length, first, byte records.length] ++ (records.map cellRecord).flatten

/-- READ LINE (R198): the form is checked before the values (notes/assumptions/46.md). -/
def readLine (payload : List Byte) (s : State) : State × Answer :=
  match payload with
  | [line, first] =>
    if line = 0 then value (lineAnswer line first s.lines.current) s
    else if line = 1 then
      match s.lines.outgoing with
      | none => answered .none_ s
      | some l => value (lineAnswer line first l) s
    else answered .badValue s
  | _ => answered .badRequest s

/-- Clears the four change latches (R181). -/
def clearLatches : State → State :=
  onSignals fun g => { g with
    cover := { g.cover with latch := false }, paper := { g.paper with latch := false },
    ribbon := { g.ribbon with latch := false }, tape := { g.tape with latch := false } }

/-- READ STATUS (R198): with the option 1, the latches are cleared after the record has been formed. The form is checked before the
value (notes/assumptions/46.md). -/
def readStatus (st : Station) (payload : List Byte) (s : State) : State × Answer :=
  match payload with
  | [option] =>
    if 1 < option.toNat then answered .badValue s
    else (if option = 1 then clearLatches s else s, ⟨.ok, statusRecord s st⟩)
  | _ => answered .badRequest s

/-! ## The current notice (R200) -/

/-- The priority of a kind at a station. -/
def priorityAt (s : State) (st : Station) (k : NoticeKind) : Nat :=
  let r := routeOf s k
  match st with
  | .keyboard => r.kbPriority
  | .mechanism => r.mechPriority
  | .interface => r.ifPriority

/-- The bid of a record at a station: priority times 16, plus count (R200). -/
def bid (s : State) (st : Station) (n : Notice) : Nat := priorityAt s st n.kind * 16 + n.count

/-- The record with the highest bid, the lower kind number before equal bids (R200). -/
def bestNotice (s : State) (st : Station) (ns : List Notice) : Option Notice :=
  ns.foldl (fun best n => match best with
    | none => some n
    | some b => if bid s st b < bid s st n ∨ (bid s st b = bid s st n ∧ n.kind.number < b.kind.number) then some n else some b) none

/-- TAKE NOTICE (R200). -/
def takeNotice (st : Station) (s : State) : State × Answer :=
  match bestNotice s st (boardOf s st).pending with
  | none => (onBoard st (fun b => { b with current := none }) s, ⟨.none_, []⟩)
  | some n =>
    (onBoard st (fun b => { pending := b.pending.filter (·.kind ≠ n.kind), current := some n }) s, ⟨.ok, noticeRecord n⟩)

/-- READ NOTICE (R200). -/
def readNotice (st : Station) (s : State) : State × Answer :=
  match (boardOf s st).current with
  | none => answered .none_ s
  | some n => value (noticeRecord n) s

end Sys2Proof.Machine
end

