-- ==== Sys2Proof/Machine/Complete.lean ====
section
/-! DEFINITION. The dispatcher and the meters: fetch, completion, failure, RESUME, DISCARD, HOME, energy, supplies, counters
(chapters 5, 6, 10). -/

namespace Sys2Proof.Machine

/-! ## FETCH ORDER, READ NEXT ORDER (R94, R95, R191) -/

/-- Marks the head order FETCHED. -/
def fetchFirst : List Order → List Order
  | [] => []
  | o :: os => if o.fetched then o :: fetchFirst os else { o with fetched := true } :: os

/-- FETCH ORDER (R94, R95). Without a PENDING order the reason is EMPTY, the dispatch state HALTED included
(notes/assumptions/44.md). -/
def fetchOrder (s : State) : State × Answer :=
  match headOrder s with
  | none => (s, ⟨.none_, [byte GateReason.empty.number, 0xFF]⟩)
  | some o =>
    match gate s o with
    | .open_ =>
      let s := onDispatch (fun d => { d with orders := fetchFirst d.orders }) s
      let s := onEnergy (fun e => { e with level := e.level - o.cost }) s
      let s := if s.service.stepping then onService (fun v => { v with credit := false }) s else s
      (judge s, ⟨.ok, orderRecord s { o with fetched := true }⟩)
    | r => (s, ⟨.none_, [byte r.number, if r = .wrongWheel then absentByte o.job.wheel else 0xFF]⟩)

/-- READ NEXT ORDER (R191). -/
def readNextOrder (s : State) : State × Answer :=
  match headOrder s with
  | none => answered .none_ s
  | some o => value (orderRecord s o ++ [byte (gate s o).number]) s

/-! ## Supplies and counters (R185 to R189) -/

/-- SUPPLY LOW with its detail (R186). -/
def supplyLow (supply count : Nat) : State → State := raise .supplyLow (byte supply :: bytesOf 3 count)

/-- The ribbon count falls by an order's width (R185, R186). -/
def useRibbon (width : Nat) (s : State) : State :=
  let new := s.service.ribbon - width
  let after := onService (fun v => { v with ribbon := new }) s
  if s.service.ribbonThreshold < s.service.ribbon ∧ new ≤ s.service.ribbonThreshold then supplyLow 0 new after else after

/-- The tape count falls by one (R185, R186). -/
def useTape (s : State) : State :=
  let new := s.service.tape - 1
  let after := onService (fun v => { v with tape := new }) s
  if s.service.tapeThreshold < s.service.tape ∧ new ≤ s.service.tapeThreshold then supplyLow 1 new after else after

/-- The set holding one member (R187). -/
def member (n : Nat) : Byte := byte (2 ^ n)

/-- An order passes a counter's selection (R187). -/
def Counter.counts (c : Counter) (j : Job) : Bool :=
  (member j.kind.number &&& c.kindMask) = c.kindMatch && (member j.source.number &&& c.sourceMask) = c.sourceMatch

/-- What a counter adds at a counted completion (R187). -/
def Counter.quantity (c : Counter) (o : Order) : Nat :=
  match c.measure with
  | .orders => 1
  | .steps => o.travel
  | .tokens => o.cost

/-- A counter after a DONE completion while counting runs (R188). -/
def Counter.done (o : Order) (c : Counter) : Counter :=
  if c.counts o.job then
    if 4294967295 < c.value + c.quantity o then { c with value := 4294967295, overflow := true }
    else { c with value := c.value + c.quantity o }
  else c

/-- The service block counts a completion (R97 step 4, R185, R188). -/
def countCompletion (o : Order) (s : State) : State :=
  let s := if s.service.frozen then s else onService (fun v => { v with counters := v.counters.map (Counter.done o) }) s
  match o.job.kind with
  | .strike => useRibbon (o.job.width.getD 0) s
  | .lift => useTape s
  | _ => s

/-- The periodic home count falls by one; at 0 a HOME is due and the count is reloaded (R107). -/
def countHome : State → State :=
  onDispatch fun d =>
    if d.homeInterval = 0 then d
    else if d.homeCount = 1 then { d with homeCount := d.homeInterval * 100, homeDue := true }
    else { d with homeCount := d.homeCount - 1 }

/-! ## Completion (R96 to R102) -/

/-- The outgoing line is dropped with its cells when its RETURN has completed (R83, R100). -/
def dropOutgoing (o : Order) (s : State) : State :=
  match s.lines.outgoing with
  | some l =>
    if o.job.kind = .ret ∧ l.returnSerial = some o.serial then setOutgoing none (dropCells (l.cells.map (·.id)) s) else s
  | none => s

/-- The effects of the kinds at a DONE completion (R98 to R101). -/
def kindDone (o : Order) (s : State) : State :=
  let onCell := fun (f : Nat → State → State) (s : State) => match o.job.cell with
    | some id => f id s
    | none => s
  match o.job.kind with
  | .strike => countHome (onCell (fun id => mapCell id Cell.strikeGone) (makeRecord o s))
  | .lift => countHome (onCell judgeLifting (removeRecord o.job s))
  | .ret => dropOutgoing o (clearMemory s)
  | .feed => clearMemory s
  | _ => s

/-- A DONE completion of the oldest FETCHED order (R97). -/
def orderCompleted (o : Order) (wheel : Nat) (s : State) : State :=
  let s := onDispatch (fun d => { d with c := o.job.target, orders := d.orders.tail }) s
  let s := countCompletion o (kindDone o s)
  judge (if o.job.kind = .init ∨ o.job.kind = .home then reportWheel wheel s else s)

/-- A FETCHED order returned to PENDING (R102); its cost is brought to the capacity, above which no PENDING order's stands (R118,
R120; notes/assumptions/38.md). -/
def Order.returned (capacity : Nat) (o : Order) : Order :=
  if o.fetched then { o with fetched := false, cost := min o.cost capacity } else o

/-- A FAILED completion of the oldest FETCHED order (R102). -/
def orderFailed (o : Order) (cause : Byte) (s : State) : State :=
  let s := onDispatch (fun d => { d with orders := d.orders.map (Order.returned s.energy.capacity), state := .halted }) s
  judge (raise .dispatchHalted [o.serial, cause] s)

/-- The oldest FETCHED order (R96). -/
def oldestFetched (s : State) : Option Order := s.dispatch.orders.head?.filter (·.fetched)

/-- ORDER DONE (R96). -/
def orderDone (payload : List Byte) (s : State) : State × Answer :=
  match payload with
  | [serial, outcome, third] =>
    if 1 < outcome.toNat ∨ (outcome = 1 ∧ 3 < third.toNat) then answered .badValue s
    else match (oldestFetched s).filter (·.serial = serial) with
      | none => answered .stale s
      | some o =>
        if outcome = 1 then ok (orderFailed o third s)
        else if (o.job.kind = .init ∨ o.job.kind = .home) ∧ 63 < third.toNat then answered .badValue s
        else ok (orderCompleted o third.toNat s)
  | _ => answered .badRequest s

/-! ## RESUME, DISCARD (R104, R105, R138, R139) -/

/-- The STRIKEs returned to PENDING that a LIFT is linked to (R138). -/
def linkedStrikes (s : State) : List Order :=
  s.dispatch.orders.filter fun o => !o.fetched && o.job.kind = .strike &&
    (s.dispatch.orders.any (·.job.linksSerial o.serial) || s.correction.held.any (·.linksSerial o.serial))

/-- RESUME while HALTED (R104, R138). -/
def resumeDispatch (s : State) : State :=
  let strikes := linkedStrikes s
  let s := dropLinked (strikes.map (·.serial)) (keepOrders (!strikes.contains ·) s)
  let cells := strikes.filterMap (·.job.cell)
  let s := cells.foldl (fun s id => mapCell id Cell.strikeGone s) s
  let s := cells.foldl (fun s id => judgeLifting id s) s
  judge (onDispatch (fun d => { d with state := .running }) s)

/-- RESUME (R104). -/
def resume (s : State) : State × Answer :=
  if s.dispatch.state = .halted then ok (resumeDispatch s) else answered .notNow s

/-- DISCARD, steps 1 to 3 (R105, R139). -/
def discardOrders (s : State) : State :=
  let struck := (s.dispatch.orders.filter (·.job.kind = .strike)).filterMap (·.job.cell)
  let s := onDispatch (fun d => { d with orders := [], homeDue := false, homeHeld := none }) s
  let s := onCorrection (fun c => { c with
    held := [], wrongWheel := none, memory := c.memory.map fun r => { r with pending := false } }) s
  let s := struck.foldl (fun s id => mapCell id Cell.strikeGone s) s
  let s := dropCells (struck.filter (!hasRecord s ·)) s
  judgeAllLifting s

/-- DISCARD, step 5 (R105): a group issue ends, its cells not yet issued removed, SKIPPED CHARACTERS raised and no MOVE made
(R74); a line release passes to its RETURN order (R82). -/
def discardReleases (removed : Option Order) (s : State) : State :=
  let s : State := match s.composer.issue with
    | some g => skippedCharacters g.skipped
        (onComposer (fun c => { c with issue := none }) (dropCells ((groupCells s g.left).map (·.id)) s))
    | none => s
  match s.composer.release, s.lines.outgoing, removed with
  | some _, some l, _ => finishRelease (dropCells ((l.cells.filter (·.isHeld)).map (·.id)) s)
  | none, some _, some o =>
    let n := nextSerial s
    let s := makeReturn s.settings.left (o.job.feed.getD 0).toNat o.job.source s
    setOutgoing (s.lines.outgoing.map fun l => { l with returnSerial := some n }) s
  | _, _, _ => s

/-- A held cell gains OVERSTRIKE over a cell already struck (R68, R105). -/
def overstruck (cells : List Cell) (c : Cell) : Cell :=
  if c.isHeld && decide (0 < c.width) && cells.any fun d => d.onPaper && decide (0 < d.width) && c.overlaps d then
    { c with overstrike := true }
  else c

/-- DISCARD, step 6: P (R105). -/
def discardPosition (s : State) : State :=
  let x := previousTarget s
  match s.lines.current.composition with
  | some .line => s
  | some .word =>
    if holdsHeld s then
      let s := replaceHeld x s
      onCurrent (fun l => { l with cells := l.cells.map (overstruck l.cells) }) s
    else onComposer (fun c => { c with p := x }) s
  | _ => onComposer (fun c => { c with p := x }) s

/-- The RETURN order of the outgoing line, when it is in the queue. -/
def outgoingReturn (s : State) : Option Order :=
  match s.lines.outgoing with
  | some l => s.dispatch.orders.find? fun o => o.job.kind = .ret && l.returnSerial = some o.serial
  | none => none

/-- DISCARD while HALTED (R105). -/
def discardAll (s : State) : State :=
  let removed := outgoingReturn s
  let s := discardOrders s
  let s := appendJob (Job.plain .init s.dispatch.c .automatic none) s
  let s := discardPosition (discardReleases removed s)
  judge (onDispatch (fun d => { d with state := .running }) s)

/-- DISCARD (R105). -/
def discard (s : State) : State × Answer :=
  if s.dispatch.state = .halted then ok (discardAll s) else answered .notNow s

/-! ## HOME (R107, R108) -/

/-- FORCE HOME (R108). -/
def forceHome (s : State) : State × Answer :=
  if places s < 1 then answered .full s
  else (judge (appendJob (Job.plain .home (previousTarget s) .keyboard none) s), ⟨.ok, [nextSerial s]⟩)

/-- SET HOME INTERVAL (R108). -/
def setHomeInterval (payload : List Byte) (s : State) : State × Answer :=
  match payload with
  | [n] => ok (onDispatch (fun d => { d with homeInterval := n.toNat, homeCount := n.toNat * 100 }) s)
  | _ => answered .badRequest s

/-- HOME_APPEND (R107): the held HOME takes a free place. -/
def appendHome (s : State) : State :=
  match s.dispatch.homeHeld with
  | some x =>
    if freePlaces s < 1 then s
    else judge (appendJob (Job.plain .home x .automatic none)
      (onDispatch (fun d => { d with homeDue := false, homeHeld := none }) s))
  | none => s

/-- HOME_COUNT_EXPIRY (R107): a count standing at 0 while the interval is above 0 (notes/assumptions/10.md). -/
def expireHomeCount : State → State :=
  onDispatch fun d =>
    if d.homeInterval ≠ 0 ∧ d.homeCount = 0 then { d with homeCount := d.homeInterval * 100, homeDue := true } else d

/-! ## Energy (R111, R117, R120) -/

/-- A new capacity lowers the level and the PENDING costs above it (R120). -/
def limitCosts (s : State) : State :=
  let cap := s.energy.capacity
  let s := onEnergy (fun e => { e with level := min e.level cap }) s
  onDispatch (fun d => { d with orders := d.orders.map fun o =>
    if o.fetched then o else { o with cost := min o.cost cap } }) s

/-- SET ENERGY (R111): the form is checked before the values (notes/assumptions/46.md). -/
def setEnergy (payload : List Byte) (s : State) : State × Answer :=
  match settingFields [1, 1, 1, 1, 1, 1, 1, 1, 1, 1] payload with
  | none => answered .badRequest s
  | some fs =>
    let e := s.energy
    match enumOr fs 8 boolOf e.travelCharge, enumOr fs 9 Impression.ofNumber e.impression with
    | some travel, some imp =>
      let new : Energy :=
        { e with capacity := clampOr fs 0 16 255 e.capacity, cost1 := clampOr fs 1 1 15 e.cost1,
                 cost2 := clampOr fs 2 1 15 e.cost2, cost3 := clampOr fs 3 1 15 e.cost3, cost4 := clampOr fs 4 1 15 e.cost4,
                 surcharge := clampOr fs 5 0 15 e.surcharge, boost := clampOr fs 6 0 1 e.boost,
                 refill := clampOr fs 7 1 15 e.refill, travelCharge := travel, impression := imp }
      let clamped := outside fs 0 16 255 || outside fs 1 1 15 || outside fs 2 1 15 || outside fs 3 1 15 ||
        outside fs 4 1 15 || outside fs 5 0 15 || outside fs 6 0 1 || outside fs 7 1 15
      let s := onEnergy (fun _ => new) s
      okOrClamped clamped (if (field fs 0).isSome then judge (limitCosts s) else s)
    | _, _ => answered .badValue s

/-- REFILL_EXPIRY (R117). -/
def refillExpires (s : State) : State :=
  let level := min s.energy.capacity (s.energy.level + s.energy.refill)
  if s.energy.refillRunning = false ∨ level = s.energy.level then s
  else judge (onEnergy (fun e => { e with level := level }) s)

end Sys2Proof.Machine
end

