-- ==== Sys2Proof/Machine/OrderRows.lean ====
section
/-! DEFINITION. Meanings: orders, energy, corrections withdrawn (chapters 5, 6, 7). -/

namespace Sys2Proof.Machine

/-- FETCH_ORDER (R94). -/
def execFetchOrder (link : Station) (payload : List Byte) (s : State) : Host.Outcome State Fault Refusal :=
  requestEvent .fetchOrder link payload (noPayload payload fetchOrder) s

/-- ORDER_DONE (R96). -/
def execOrderDone (link : Station) (payload : List Byte) (s : State) : Host.Outcome State Fault Refusal :=
  requestEvent .orderDone link payload (orderDone payload) s

/-- RESUME (R104). -/
def execResume (link : Station) (payload : List Byte) (s : State) : Host.Outcome State Fault Refusal :=
  requestEvent .resume link payload (noPayload payload resume) s

/-- DISCARD (R105). -/
def execDiscard (link : Station) (payload : List Byte) (s : State) : Host.Outcome State Fault Refusal :=
  requestEvent .discard link payload (noPayload payload discard) s

/-- FORCE_HOME (R108). -/
def execForceHome (link : Station) (payload : List Byte) (s : State) : Host.Outcome State Fault Refusal :=
  requestEvent .forceHome link payload (noPayload payload forceHome) s

/-- SET_HOME_INTERVAL (R108). -/
def execSetHomeInterval (link : Station) (payload : List Byte) (s : State) : Host.Outcome State Fault Refusal :=
  requestEvent .setHomeInterval link payload (setHomeInterval payload) s

/-- CANCEL LIFTS with its answer (R140). -/
def cancelLiftsAnswer (s : State) : State × Answer :=
  let r := cancelLifts s
  (r.1, ⟨.ok, [countByte r.2]⟩)

/-- CANCEL_LIFTS (R140). -/
def execCancelLifts (link : Station) (payload : List Byte) (s : State) : Host.Outcome State Fault Refusal :=
  requestEvent .cancelLifts link payload (noPayload payload cancelLiftsAnswer) s

/-- READ_NEXT_ORDER (R191). -/
def execReadNextOrder (link : Station) (payload : List Byte) (s : State) : Host.Outcome State Fault Refusal :=
  requestEvent .readNextOrder link payload (noPayload payload readNextOrder) s

/-- SET_ENERGY (R111). -/
def execSetEnergy (link : Station) (payload : List Byte) (s : State) : Host.Outcome State Fault Refusal :=
  requestEvent .setEnergy link payload (setEnergy payload) s

/-- HELD_ORDER_APPEND (R135). -/
def execHeldOrderAppend (s : State) : Host.Outcome State Fault Refusal := event (fun s => settle s (nextHeldOrder s)) s

/-- HOME_APPEND (R107). -/
def execHomeAppend (s : State) : Host.Outcome State Fault Refusal := event appendHome s

/-- HOME_COUNT_EXPIRY (R107). -/
def execHomeCountExpiry (s : State) : Host.Outcome State Fault Refusal := event expireHomeCount s

/-- REFILL_EXPIRY (R117). -/
def execRefillExpiry (s : State) : Host.Outcome State Fault Refusal := event refillExpires s

end Sys2Proof.Machine
end

