-- ==== Sys2Proof/Machine/Frames.lean ====
section
/-! DEFINITION. The frames of the links, byte by byte and bit by bit: acknowledge bits, the bytes the part sends, the levels of SDI
and SDO at the pulses of SCK, and the command that the end of a frame is (R192 to R196, R202, R203). -/

namespace Sys2Proof.Machine

/-! ## What the part sends (R196) -/

/-- The code that opens an ANSWER frame (R193, R203). -/
abbrev answerCode : Byte := 0xFF

/-- A code that names no request (R193, R195, R203); 0xFF opens an ANSWER frame. -/
def namesNoRequest (code : Byte) : Bool := (ReqKind.ofCode code.toNat).isNone && code ≠ answerCode

/-- What an ANSWER frame returns (R196). -/
def answerReturned : AnswerBuffer → Answer
  | .empty => ⟨.empty, []⟩
  | .busy => ⟨.pending, []⟩
  | .held a => a

/-- The bytes of an answer on SDO: status, length, payload (R196, R203). -/
def Answer.bytes (a : Answer) : List Byte := [byte a.status.number, byte a.payload.length] ++ a.payload

/-- The bytes the part sends in a frame of which the station clocks the given bytes, its first being the code: one for each
byte after the code of an ANSWER frame, up to the answer's end. SDO is not driven with data in any other frame, and not at all
while RESET is held low (R192, R196, R202). -/
def sentInFrame (s : State) (st : Station) (bytes : List Byte) : List Byte :=
  match bytes with
  | code :: fillers =>
    if !s.resetHeld && code = answerCode then (answerReturned (linkOf s st).answer).bytes.take fillers.length else []
  | [] => []

/-! ## Acknowledge bits (R192 to R194, R202) -/

/-- The acknowledge bits of a request frame the part receives: the code and a length of at most 40 are accepted, and so are as
many payload bytes as declared; a length above 40 and every byte after it, and bytes after the payload, are refused (R193). -/
def requestAcks : List Byte → List Bool
  | [] => []
  | [_] => [false]
  | _ :: n :: payload =>
    if 40 < n.toNat then false :: true :: payload.map fun _ => true
    else false :: false :: payload.mapIdx fun i _ => decide (n.toNat ≤ i)

/-- The acknowledge bits the part drives in a frame, one for each byte it receives: `true` for the bit 1, which refuses. Every
byte is refused while RESET is held low (R202), and every byte of a request frame while the answer buffer is not EMPTY (R194);
in an ANSWER frame the part accepts the code and is the receiver of no other byte (R192, R196). -/
def acknowledges (s : State) (st : Station) (bytes : List Byte) : List Bool :=
  if s.resetHeld then bytes.map fun _ => true
  else if bytes.head? = some answerCode then [false]
  else if (linkOf s st).answer ≠ .empty then bytes.map fun _ => true
  else requestAcks bytes

/-! ## Bits (R192) -/

/-- The bytes that the levels of SDI spell, one level for each pulse of SCK in the frame: of every nine, eight are a byte, most
significant bit first, and the ninth is the acknowledge bit's. The bits of a byte cut short by the rise of SEL are discarded
(R192); one whose ninth pulse is wanting is such a byte (notes/assumptions/47.md). -/
def clockedBytes : List Bool → List Byte
  | b7 :: b6 :: b5 :: b4 :: b3 :: b2 :: b1 :: b0 :: _ :: rest =>
    byte (bitsNumber [b7, b6, b5, b4, b3, b2, b1, b0]) :: clockedBytes rest
  | _ => []

/-- SDO in the nine pulses of a byte the part sends: its bits; the ninth pulse is the station's (R192). `none`: the part gives
no level. -/
def sdoOfSent (b : Byte) : List (Option Bool) := (byteBits b).map some ++ [none]

/-- SDO in the nine pulses of a byte the part receives: its acknowledge bit in the ninth (R192). -/
def sdoOfReceived (refused : Bool) : List (Option Bool) := List.replicate 8 none ++ [some refused]

/-- SDO over the bytes clocked in a frame: the acknowledge of each byte the part receives, then the bytes it sends. While RESET
is held low SDO is not driven (R202), so that a refusal is then no level of the part's (notes/assumptions/47.md). -/
def sdoOfBytes (s : State) (st : Station) (bytes : List Byte) : List (Option Bool) :=
  let received := if s.resetHeld then [] else acknowledges s st bytes
  let sent := sentInFrame s st bytes
  received.flatMap sdoOfReceived ++ sent.flatMap sdoOfSent ++
    List.replicate (9 * (bytes.length - received.length - sent.length)) none

/-- SDO at each pulse of a frame whose levels of SDI are given, a byte cut short included. -/
def sdoInFrame (s : State) (st : Station) (sdi : List Bool) : List (Option Bool) :=
  (sdoOfBytes s st (clockedBytes sdi ++ [0])).take sdi.length

/-! ## The command that the end of a frame is -/

/-- The row of a request: three requests have a row for each value of their form, choice or action, and one whose byte names
none of them is a row's all the same, which refuses it (R203; notes/assumptions/1.md). -/
def requestRow (st : Station) (payload : List Byte) : ReqKind → Instr
  | .keys => .keys st payload
  | .text => .text st payload
  | .holdLines => .holdLines st payload
  | .releaseLines => .releaseLines st payload
  | .readDiverted => .readDiverted st payload
  | .takeLine => .takeLine st payload
  | .setStreams => .setStreams st payload
  | .setComposition => .setComposition st payload
  | .setTab => .setTab st payload
  | .clearTab => .clearTab st payload
  | .clearTabs => .clearTabs st payload
  | .setClasses => .setClasses st payload
  | .loadWheelTable =>
    if payload[0]? = some 1 then .loadWheelTableEntries st payload
    else if payload[0]? = some 2 then .loadWheelTableFinal st payload
    else .loadWheelTableHeader st payload
  | .eraseWheelTable => .eraseWheelTable st payload
  | .wheelReport => .wheelReport st payload
  | .fetchOrder => .fetchOrder st payload
  | .orderDone => .orderDone st payload
  | .resume => .resume st payload
  | .discard => .discard st payload
  | .forceHome => .forceHome st payload
  | .setHomeInterval => .setHomeInterval st payload
  | .cancelLifts => .cancelLifts st payload
  | .readNextOrder => .readNextOrder st payload
  | .setEnergy => .setEnergy st payload
  | .setSpelling => .setSpelling st payload
  | .setSkipRule => .setSkipRule st payload
  | .addWord => .addWord st payload
  | .removeWord => .removeWord st payload
  | .spellAnswer =>
    if payload[1]? = some 1 then .spellAnswerAdd st payload
    else if payload[1]? = some 2 then .spellAnswerReject st payload
    else .spellAnswerAccept st payload
  | .showMessage => .showMessage st payload
  | .clearMessage => .clearMessage st payload
  | .setSignals => .setSignals st payload
  | .setLamps => .setLamps st payload
  | .clearLamps => .clearLamps st payload
  | .beep => .beep st payload
  | .supplyNew => .supplyNew st payload
  | .setCounter => .setCounter st payload
  | .counters =>
    if payload[0]? = some 1 then .countersRun st payload
    else if payload[0]? = some 2 then .countersClear st payload
    else .countersFreeze st payload
  | .setStepping => .setStepping st payload
  | .step => .stepRequest st payload
  | .get => .get st payload
  | .readStatus => .readStatus st payload
  | .readLine => .readLine st payload
  | .takeNotice => .takeNotice st payload
  | .readNotice => .readNotice st payload
  | .setNoticeRoute => .setNoticeRoute st payload
  | .softRestart => .softRestart st payload

/-- The row of a complete request: the code table picks it (R203), and a code that names none is a row of its own (R195). -/
def rowOfCode (st : Station) (code : Byte) (payload : List Byte) : Instr :=
  match ReqKind.ofCode code.toNat with
  | some k => requestRow st payload k
  | none => .unknownRequest st code payload

/-- The command that the end of a frame is, the station having sent the given complete bytes (R193 to R196): an ANSWER frame,
read to its end when the station clocked as many bytes as the answer has; a lost request; a frame error; or the request the
code names, with the declared payload, bytes after it being refused and dropped. -/
def frameRow (s : State) (st : Station) (bytes : List Byte) : Instr :=
  match bytes with
  | [] => .shortFrame st false
  | code :: rest =>
    if code = answerCode then
      .answer st (decide ((answerReturned (linkOf s st).answer).bytes.length ≤ rest.length))
    else if (linkOf s st).answer ≠ .empty then .overrun st
    else match rest with
      | [] => .shortFrame st true
      | n :: payload =>
        if 40 < n.toNat then .frameBadLength st
        else if payload.length < n.toNat then .shortFrame st true
        else rowOfCode st code (payload.take n.toNat)

/-- The command that the rise of SEL is, from the levels of SDI at the pulses of the frame (R192). -/
def frameOfLevels (s : State) (st : Station) (sdi : List Bool) : Instr := frameRow s st (clockedBytes sdi)

end Sys2Proof.Machine
end

