-- ==== Sys2Proof/Machine/PowerRows.lean ====
section
/-! DEFINITION. Meanings: power, reset, link frames, SOFT RESTART (R58, R85, R109, R124, R165, R179, R192 to R202). -/

namespace Sys2Proof.Machine

/-- The state after power-on, the waiting commands and the levels of the input pins kept, the offerable flag judged on the
INIT order (R93, R202; notes/assumptions/7.md). -/
def powered (s : State) : State :=
  judge (State.powerOn s.pending s.signals.cover.raw s.signals.paper.raw s.signals.ribbon.raw s.signals.tape.raw s.display.dbusy)

/-- POWER_ON (R202). -/
def execPowerOn (s : State) : Host.Outcome State Fault Refusal := .next (powered s)

/-- No bytes of an ANSWER frame stand on a link (R202: SDO is not driven). -/
def Link.silent (l : Link) : Link := { l with sdo := [] }

/-- What the fall of RESET does (R202): maps emptied, current notices NONE, the beeper silent, both ports idle, nothing on
SDO. -/
def resetFalls (s : State) : State :=
  { s with
    resetHeld := true
    notices := { s.notices with
      keyboard := NoticeBoard.clear, mechanism := NoticeBoard.clear, interface := NoticeBoard.clear }
    signals := { s.signals with beeper := none }
    display := { s.display with phase := .idle, frame := none, busyWait := false, retryTimer := false }
    spelling := { s.spelling with port := none }
    links := { s.links with
      keyboard := s.links.keyboard.silent, mechanism := s.links.mechanism.silent, interface := s.links.interface.silent } }

/-- RESET_ASSERT (R202). -/
def execResetAssert (s : State) : Host.Outcome State Fault Refusal := .next (if s.resetHeld then s else resetFalls s)

/-- RESET_RELEASE (R202). -/
def execResetRelease (s : State) : Host.Outcome State Fault Refusal := .next (if s.resetHeld then powered s else s)

/-! ## Frames (R193 to R196) -/

/-- FRAME_BAD_LENGTH (R193, R194). -/
def execFrameBadLength (link : Station) (s : State) : Host.Outcome State Fault Refusal :=
  event (fun s => if (linkOf s link).answer ≠ .empty then overrunOn link s else badLengthOn link s) s

/-- The end of a frame shorter than declared (R193). -/
def shortFrameOn (st : Station) (codeReceived : Bool) (s : State) : State :=
  let s := onLink st (fun l => { l with receive := none }) s
  if codeReceived then linkError st 0 s else s

/-- SHORT_FRAME (R193, R194). -/
def execShortFrame (link : Station) (codeReceived : Bool) (s : State) : Host.Outcome State Fault Refusal :=
  event (fun s =>
    if (linkOf s link).answer ≠ .empty then (if codeReceived then overrunOn link s else s)
    else shortFrameOn link codeReceived s) s

/-- OVERRUN (R194): the end of a request frame that found the answer buffer not EMPTY. -/
def execOverrun (link : Station) (s : State) : Host.Outcome State Fault Refusal :=
  event (fun s => if (linkOf s link).answer ≠ .empty then overrunOn link s else s) s

/-- UNKNOWN_REQUEST (R195): no effect for a code that names a request. -/
def execUnknownRequest (link : Station) (code : Byte) (payload : List Byte) (s : State) :
    Host.Outcome State Fault Refusal :=
  event (fun s =>
    if namesNoRequest code then takeFrame code link payload (answered .badRequest) s else s) s

/-- The answer buffer after an ANSWER frame (R196). -/
def answerLeft (readToEnd : Bool) : AnswerBuffer → AnswerBuffer
  | .held a => if readToEnd then .empty else .held a
  | b => b

/-- ANSWER (R196). -/
def execAnswer (link : Station) (readToEnd : Bool) (s : State) : Host.Outcome State Fault Refusal :=
  event (onLink link fun l =>
    { l with sdo := (answerReturned l.answer).bytes, answer := answerLeft readToEnd l.answer }) s

/-! ## SOFT RESTART (R202) -/

/-- The streams after SOFT RESTART (R58). -/
def Streams.restarted (t : Streams) : Streams :=
  { t with typeAhead := [], interfaceQ := [], divertQ := [], holder := none, pageHold := .off, lapsePending := false,
           takeover := false, lapseTimer := none, roomLow := false }

/-- The composer after SOFT RESTART (R63, R85). -/
def Composer.restarted (left : Nat) (c : Composer) : Composer :=
  { c with p := left, cursor := 0, kbAttr := ⟨false, false⟩, ifAttr := ⟨false, false⟩, marginRelease := false,
           bellRung := false, openGroup := [], closedGroups := [], issue := none, release := none }

/-- A wheel slot after SOFT RESTART (R5). -/
def Slot.restarted : Slot → Slot
  | .loading _ _ _ => .empty
  | x => x

/-- A transfer after SOFT RESTART: a lookup's result will be discarded, a header is judged as usual (R165). -/
def Transfer.restarted (x : Transfer) : Transfer :=
  match x.kind with
  | .header => x
  | _ => { x with discard := true }

/-- The spelling unit after SOFT RESTART (R165). -/
def Spelling.restarted (p : Spelling) : Spelling :=
  { p with openWord := [], pendingApos := none, tickets := [], queue := [], overflow := 0,
           port := p.port.map Transfer.restarted }

/-- Every block after SOFT RESTART, but for the links (R202). -/
def restarted (s : State) : State :=
  { s with
    wheels := { s.wheels with slots := s.wheels.slots.map Slot.restarted }
    streams := s.streams.restarted
    lines := { current := Line.fresh s.settings.layout s.settings.left, outgoing := none }
    composer := s.composer.restarted s.settings.left
    dispatch := { s.dispatch with orders := [], state := .running, offerable := false, homeDue := false, homeHeld := none }
    correction := { s.correction with memory := [], held := [], wrongWheel := none }
    spelling := s.spelling.restarted
    display := { s.display with kbSlot := none, ifSlot := none, ws := 0, dirty := true }
    notices := { s.notices with
      keyboard := NoticeBoard.clear, mechanism := NoticeBoard.clear, interface := NoticeBoard.clear } }

/-- SOFT RESTART's INIT order, with target L (R109), and the judgement on it (R93). -/
def softRestart (s : State) : State :=
  judge (appendJob (Job.plain .init s.settings.left .automatic none) (restarted s))

/-- SOFT_RESTART (R202). -/
def execSoftRestart (link : Station) (payload : List Byte) (s : State) : Host.Outcome State Fault Refusal :=
  requestEvent .softRestart link payload (noPayload payload fun s => ok (softRestart s)) s

end Sys2Proof.Machine
end

