-- ==== Sys2Proof/Machine/ReadRows.lean ====
section
/-! DEFINITION. Meanings: the requests that read state, and the notices (R198 to R201). -/

namespace Sys2Proof.Machine

/-- GET (R198). -/
def execGet (link : Station) (payload : List Byte) (s : State) : Host.Outcome State Fault Refusal :=
  requestEvent .get link payload (getItem payload) s

/-- READ_STATUS (R198). -/
def execReadStatus (link : Station) (payload : List Byte) (s : State) : Host.Outcome State Fault Refusal :=
  requestEvent .readStatus link payload (readStatus link payload) s

/-- READ_LINE (R198). -/
def execReadLine (link : Station) (payload : List Byte) (s : State) : Host.Outcome State Fault Refusal :=
  requestEvent .readLine link payload (readLine payload) s

/-- TAKE_NOTICE (R200). -/
def execTakeNotice (link : Station) (payload : List Byte) (s : State) : Host.Outcome State Fault Refusal :=
  requestEvent .takeNotice link payload (noPayload payload (takeNotice link)) s

/-- READ_NOTICE (R200). -/
def execReadNotice (link : Station) (payload : List Byte) (s : State) : Host.Outcome State Fault Refusal :=
  requestEvent .readNotice link payload (noPayload payload (readNotice link)) s

/-- The route and priorities written (R201); bits of the route that name no station are ignored (notes/assumptions/25.md). -/
def writeRoute (fs : List (Option Nat)) (r : Route) : Route :=
  let r := match field fs 0 with
    | none => r
    | some b => { r with keyboard := b.testBit 0, mechanism := b.testBit 1, interface := b.testBit 2 }
  match field fs 1 with
  | none => r
  | some n =>
    { r with kbPriority := min 15 (n / 65536), mechPriority := min 15 (n / 256 % 256), ifPriority := min 15 (n % 256) }

/-- A priority of the three is above 15 (R201). -/
def priorityAbove (fs : List (Option Nat)) : Bool :=
  match field fs 1 with
  | none => false
  | some n => decide (15 < n / 65536) || decide (15 < n / 256 % 256) || decide (15 < n % 256)

/-- SET NOTICE ROUTE (R201): the form is checked before the values (notes/assumptions/46.md). -/
def setNoticeRoute (payload : List Byte) (s : State) : State × Answer :=
  match payload with
  | [] => answered .badRequest s
  | kind :: rest =>
    match settingFields [1, 3] rest with
    | none => answered .badRequest s
    | some fs =>
      if kind = 0 ∨ 17 < kind.toNat ∨ (isDirect kind.toNat ∧ (field fs 0).isSome) then answered .badValue s
      else okOrClamped (priorityAbove fs)
        (onNotices (fun n => { n with routes := n.routes.modify (kind.toNat - 1) (writeRoute fs) }) s)

/-- SET_NOTICE_ROUTE (R201). -/
def execSetNoticeRoute (link : Station) (payload : List Byte) (s : State) : Host.Outcome State Fault Refusal :=
  requestEvent .setNoticeRoute link payload (setNoticeRoute payload) s

end Sys2Proof.Machine
end

