-- ==== Sys2Proof/Machine/ServiceRows.lean ====
section
/-! DEFINITION. Meanings: messages, signals, sense inputs, beeper, supplies, counters, stepping (chapters 9, 10). -/

namespace Sys2Proof.Machine

/-! ## Message slots (R173, R174) -/

/-- Writes the message slot of a station; the mechanism station has none (R173). -/
def setSlotOf (st : Station) (m : Option Message) (s : State) : State :=
  setDirty (match st with
    | .keyboard => onDisplay (fun d => { d with kbSlot := m }) s
    | .interface => onDisplay (fun d => { d with ifSlot := m }) s
    | .mechanism => s)

/-- SHOW MESSAGE (R173): the length is checked before the codes (notes/assumptions/46.md). -/
def showMessage (st : Station) (payload : List Byte) (s : State) : State × Answer :=
  match payload with
  | duration :: c :: cs =>
    if 32 < (c :: cs).length then answered .badRequest s
    else if (c :: cs).any (!printable ·) then answered .badValue s
    else ok (setSlotOf st (some ⟨c :: cs, duration.toNat, duration.toNat⟩) s)
  | _ => answered .badRequest s

/-- SHOW_MESSAGE (R173). -/
def execShowMessage (link : Station) (payload : List Byte) (s : State) : Host.Outcome State Fault Refusal :=
  requestEvent .showMessage link payload (showMessage link payload) s

/-- CLEAR_MESSAGE (R174). -/
def execClearMessage (link : Station) (payload : List Byte) (s : State) : Host.Outcome State Fault Refusal :=
  requestEvent .clearMessage link payload (noPayload payload fun s => ok (setSlotOf link none s)) s

/-- The remaining time of the shown slot reaches 0 (R174): a slot of duration 0 has no running timer. -/
def messageExpires (s : State) : State :=
  match s.display.kbSlot, s.display.ifSlot with
  | some m, _ => if m.duration = 0 then s else setDirty (onDisplay (fun d => { d with kbSlot := none }) s)
  | none, some m => if m.duration = 0 then s else setDirty (onDisplay (fun d => { d with ifSlot := none }) s)
  | none, none => s

/-- MESSAGE_EXPIRY (R174). -/
def execMessageExpiry (s : State) : Host.Outcome State Fault Refusal := event messageExpires s

/-! ## Lamps, SET SIGNALS, beeper (R182 to R184) -/

/-- A lamp's function written, when its field is present and in order. -/
def lampField (fs : List (Option Nat)) (i : Nat) (l : Lamp) : Option Lamp :=
  (enumOr fs i LampFunction.ofNumber l.function).map fun f => { l with function := f }

/-- The four lamps with their functions written; `none` when one is unknown (R184). -/
def lampFields (fs : List (Option Nat)) : Nat → List Lamp → Option (List Lamp)
  | _, [] => some []
  | i, l :: ls =>
    match lampField fs i l, lampFields fs (i + 1) ls with
    | some x, some xs => some (x :: xs)
    | _, _ => none

/-- SET SIGNALS (R184): the form is checked before the values (notes/assumptions/46.md). -/
def setSignals (payload : List Byte) (s : State) : State × Answer :=
  match settingFields [1, 1, 1, 1, 1, 1] payload with
  | none => answered .badRequest s
  | some fs =>
    match lampFields fs 2 s.signals.lamps with
    | none => answered .badValue s
    | some ls =>
      okOrClamped (outside fs 0 2 30 || outside fs 1 10 40) (onSignals (fun g => { g with
        filterTime := clampOr fs 0 2 30 g.filterTime, tone := clampOr fs 1 10 40 g.tone, lamps := ls }) s)

/-- Turns the manual state of the lamps of a set, bit n for lamp n (R182). -/
def turnLamps (on : Bool) : Nat → List Lamp → List Lamp
  | _, [] => []
  | set, l :: ls => (if set.testBit 0 then { l with manual := on } else l) :: turnLamps on (set / 2) ls

/-- SET LAMPS and CLEAR LAMPS (R182): the form is checked before the values (notes/assumptions/46.md). -/
def writeLamps (on : Bool) (payload : List Byte) (s : State) : State × Answer :=
  match payload with
  | [set] =>
    if 15 < set.toNat then answered .badValue s
    else ok (onSignals (fun g => { g with lamps := turnLamps on set.toNat g.lamps }) s)
  | _ => answered .badRequest s

/-- SET_SIGNALS (R184). -/
def execSetSignals (link : Station) (payload : List Byte) (s : State) : Host.Outcome State Fault Refusal :=
  requestEvent .setSignals link payload (setSignals payload) s

/-- SET_LAMPS (R182). -/
def execSetLamps (link : Station) (payload : List Byte) (s : State) : Host.Outcome State Fault Refusal :=
  requestEvent .setLamps link payload (writeLamps true payload) s

/-- CLEAR_LAMPS (R182). -/
def execClearLamps (link : Station) (payload : List Byte) (s : State) : Host.Outcome State Fault Refusal :=
  requestEvent .clearLamps link payload (writeLamps false payload) s

/-- BEEP (R183): the form is checked before the values (notes/assumptions/46.md). -/
def beepRequest (payload : List Byte) (s : State) : State × Answer :=
  match payload with
  | [p] => match Pattern.ofNumber p.toNat with
    | none => answered .badValue s
    | some x => if beepTaken s x then ok (requestBeep x s) else answered .notNow s
  | _ => answered .badRequest s

/-- BEEP (R183). -/
def execBeep (link : Station) (payload : List Byte) (s : State) : Host.Outcome State Fault Refusal :=
  requestEvent .beep link payload (beepRequest payload) s

/-- The end of a period of the sounding pattern (R183). -/
def Sounding.periodEnds (b : Sounding) : Option Sounding :=
  if b.pattern = .double ∧ b.period < 2 then some { b with period := b.period + 1 } else none

/-- BEEP_TIMER_EXPIRY (R183). -/
def execBeepTimerExpiry (s : State) : Host.Outcome State Fault Refusal :=
  event (onSignals fun g => { g with beeper := g.beeper.bind Sounding.periodEnds }) s

/-! ## Sense inputs (R180, R181) -/

/-- A sense input of the block. -/
def senseOf (g : Signals) : SenseInput → Sense
  | .cover => g.cover
  | .paper => g.paper
  | .ribbon => g.ribbon
  | .tape => g.tape

/-- Updates a sense input. -/
def onSense (i : SenseInput) (f : Sense → Sense) : State → State :=
  onSignals fun g => match i with
    | .cover => { g with cover := f g.cover }
    | .paper => { g with paper := f g.paper }
    | .ribbon => { g with ribbon := f g.ribbon }
    | .tape => { g with tape := f g.tape }

/-- The filtered level as a level of the pin; an UNSETTLED input has none. -/
def Level.raw? : Level → Option Bool
  | .unsettled => none
  | .negated => some false
  | .asserted => some true

/-- The raw level changes (R180): the timer starts, and stops when the level returns to the filtered one. -/
def Sense.pinChanges (filterTime : Nat) (level : Bool) (x : Sense) : Sense :=
  if x.raw = level then x
  else { x with raw := level, timer := if x.level.raw? = some level then none else some filterTime }

/-- SENSE_PIN_CHANGE (R180); while RESET is held the pin's level alone is seen (notes/assumptions/7.md). -/
def execSensePinChange (input : SenseInput) (level : Bool) (s : State) : Host.Outcome State Fault Refusal :=
  .next (onSense input (fun x => if s.resetHeld then { x with raw := level } else x.pinChanges s.signals.filterTime level) s)

/-- The filtered level a raw level gives (R180). -/
def levelOf (raw : Bool) : Level := if raw then .asserted else .negated

/-- The filter timer of an input expires (R180, R181): a first settling, or an accepted change. -/
def filterExpires (input : SenseInput) (s : State) : State :=
  let x := senseOf s.signals input
  if x.timer.isNone then s
  else if x.level = .unsettled then judge (onSense input (fun x => { x with level := levelOf x.raw, timer := none }) s)
  else
    let s := onSense input (fun x => { x with level := levelOf x.raw, timer := none, latch := true }) s
    judge (raise .senseChange [levelsByte s.signals, latchesByte s.signals] s)

/-- FILTER_TIMER_EXPIRY (R180). -/
def execFilterTimerExpiry (input : SenseInput) (s : State) : Host.Outcome State Fault Refusal := event (filterExpires input) s

/-! ## Supplies, counters, stepping (R186, R189, R190) -/

/-- SUPPLY NEW (R186): the length is checked before the supply (notes/assumptions/46.md). -/
def supplyNew (payload : List Byte) (s : State) : State × Answer :=
  if payload.length ≠ 7 then answered .badRequest s
  else
    let count := num ((payload.drop 1).take 3)
    let threshold := num (payload.drop 4)
    match (num (payload.take 1)) with
    | 0 =>
      let s := onService (fun v => { v with ribbon := count, ribbonThreshold := threshold }) s
      ok (if count ≤ threshold then supplyLow 0 count s else s)
    | 1 =>
      let c := min 65535 count
      let t := min 65535 threshold
      let s := onService (fun v => { v with tape := c, tapeThreshold := t }) s
      okOrClamped (decide (65535 < count) || decide (65535 < threshold)) (if c ≤ t then supplyLow 1 c s else s)
    | _ => answered .badValue s

/-- SET COUNTER (R189); mask and match bits that name no kind and no source are ignored (notes/assumptions/25.md), and the form is
checked before the values (notes/assumptions/46.md). -/
def setCounter (payload : List Byte) (s : State) : State × Answer :=
  match payload with
  | [n, measure, kmask, kmatch, smask, smatch] =>
    match Measure.ofNumber measure.toNat with
    | none => answered .badValue s
    | some m =>
      let km := kmask &&& 0x7F
      let kx := kmatch &&& 0x7F
      let sm := smask &&& 0x0F
      let sx := smatch &&& 0x0F
      if 3 < n.toNat ∨ kx &&& ~~~km ≠ 0 ∨ sx &&& ~~~sm ≠ 0 then answered .badValue s
      else ok (onService (fun v => { v with counters := v.counters.modify n.toNat fun c =>
        { c with measure := m, kindMask := km, kindMatch := kx, sourceMask := sm, sourceMatch := sx } }) s)
  | _ => answered .badRequest s

/-- COUNTERS with the row's own action (R189): the form is checked before the values (notes/assumptions/46.md). -/
def countersAction (action : Nat) (payload : List Byte) (f : Service → Service) (s : State) : State × Answer :=
  match payload with
  | [a] => if a.toNat = action then ok (onService f s) else answered .badValue s
  | _ => answered .badRequest s

/-- SUPPLY_NEW (R186). -/
def execSupplyNew (link : Station) (payload : List Byte) (s : State) : Host.Outcome State Fault Refusal :=
  requestEvent .supplyNew link payload (supplyNew payload) s

/-- SET_COUNTER (R189). -/
def execSetCounter (link : Station) (payload : List Byte) (s : State) : Host.Outcome State Fault Refusal :=
  requestEvent .setCounter link payload (setCounter payload) s

/-- COUNTERS_FREEZE (R189). -/
def execCountersFreeze (link : Station) (payload : List Byte) (s : State) : Host.Outcome State Fault Refusal :=
  requestEvent .counters link payload (countersAction 0 payload fun v => { v with frozen := true }) s

/-- COUNTERS_RUN (R189). -/
def execCountersRun (link : Station) (payload : List Byte) (s : State) : Host.Outcome State Fault Refusal :=
  requestEvent .counters link payload (countersAction 1 payload fun v => { v with frozen := false }) s

/-- COUNTERS_CLEAR (R189). -/
def execCountersClear (link : Station) (payload : List Byte) (s : State) : Host.Outcome State Fault Refusal :=
  requestEvent .counters link payload
    (countersAction 2 payload fun v => { v with counters := v.counters.map fun c => { c with value := 0, overflow := false } }) s

/-- SET STEPPING (R190): the form is checked before the values (notes/assumptions/46.md). -/
def setStepping (payload : List Byte) (s : State) : State × Answer :=
  match payload with
  | [x] => match boolOf x.toNat with
    | none => answered .badValue s
    | some on => ok (judge (onService (fun v => { v with stepping := on, credit := false }) s))
  | _ => answered .badRequest s

/-- SET_STEPPING (R190). -/
def execSetStepping (link : Station) (payload : List Byte) (s : State) : Host.Outcome State Fault Refusal :=
  requestEvent .setStepping link payload (setStepping payload) s

/-- STEP (R190). -/
def stepCredit (s : State) : State × Answer :=
  if s.service.stepping then ok (judge (onService (fun v => { v with credit := true }) s)) else answered .notNow s

/-- STEP (R190). -/
def execStepRequest (link : Station) (payload : List Byte) (s : State) : Host.Outcome State Fault Refusal :=
  requestEvent .step link payload (noPayload payload stepCredit) s

end Sys2Proof.Machine
end

