-- ==== Sys2Proof/Machine/SettingsRows.lean ====
section
/-! DEFINITION. Meanings: composition settings, tab stops, class table, wheel tables, WHEEL REPORT (chapters 1, 2, 4). -/

namespace Sys2Proof.Machine

/-! ## SET COMPOSITION (R17, R23, R24, R62, R64) -/

/-- A mode written for the source that holds an empty line acts at once (R62). -/
def modeWritten (fs : List (Option Nat)) (s : State) : State :=
  match s.streams.holder with
  | none => s
  | some h =>
    let present := (field fs (match h with
      | .keyboard => 0
      | .interface => 1)).isSome
    if present && s.lines.current.cells.isEmpty then setComposition (modeOf s h) s else s

/-- SET COMPOSITION (R17, R23, R24, R64): the form is checked before the values (notes/assumptions/46.md). -/
def setCompositionRequest (payload : List Byte) (s : State) : State × Answer :=
  match settingFields [1, 1, 1, 1, 1, 2, 2, 1, 1, 1] payload with
  | none => answered .badRequest s
  | some fs =>
    let c := s.settings
    match enumOr fs 0 Mode.ofNumber c.kbMode, enumOr fs 1 Mode.ofNumber c.ifMode, enumOr fs 2 boolOf c.autoReturn,
      enumOr fs 4 Pitch.ofNumber c.pitch, enumOr fs 9 layoutSettingOf c.layout with
    | some kb, some ifc, some auto, some pitch, some layout =>
      let left := clampOr fs 5 0 1439 c.left
      let right := clampOr fs 6 120 1559 c.right
      if right < left + 120 then answered .badValue s
      else
        let new : Settings :=
          { c with kbMode := kb, ifMode := ifc, autoReturn := auto, lineSpacing := clampOr fs 3 2 6 c.lineSpacing,
                   pitch := pitch, left := left, right := right, hotZone := clampOr fs 7 0 240 c.hotZone,
                   xmax := clampOr fs 8 0 48 c.xmax, layout := layout }
        okOrClamped
          (outside fs 3 2 6 || outside fs 5 0 1439 || outside fs 6 120 1559 || outside fs 7 0 240 || outside fs 8 0 48)
          (modeWritten fs (onSettings (fun _ => new) s))
    | _, _, _, _, _ => answered .badValue s

/-- SET_COMPOSITION (R64). -/
def execSetComposition (link : Station) (payload : List Byte) (s : State) : Host.Outcome State Fault Refusal :=
  requestEvent .setComposition link payload (setCompositionRequest payload) s

/-! ## Tab stops (R26, R27) -/

/-- Inserts a position at its place in ascending order. -/
def insertTab (x : Nat) : List Nat → List Nat
  | [] => [x]
  | y :: ys => if x < y then x :: y :: ys else y :: insertTab x ys

/-- SET TAB (R26). -/
def setTab (payload : List Byte) (s : State) : State × Answer :=
  if payload.length ≠ 2 then answered .badRequest s
  else
    let x := min lastPosition (num payload)
    let clamped := decide (lastPosition < num payload)
    if s.settings.tabs.contains x then okOrClamped clamped s
    else if 16 ≤ s.settings.tabs.length then answered .full s
    else okOrClamped clamped (onSettings (fun c => { c with tabs := insertTab x c.tabs }) s)

/-- CLEAR TAB (R27). -/
def clearTab (payload : List Byte) (s : State) : State × Answer :=
  if payload.length ≠ 2 then answered .badRequest s
  else ok (onSettings (fun c => { c with tabs := c.tabs.filter (· ≠ num payload) }) s)

/-- SET_TAB (R26). -/
def execSetTab (link : Station) (payload : List Byte) (s : State) : Host.Outcome State Fault Refusal :=
  requestEvent .setTab link payload (setTab payload) s

/-- CLEAR_TAB (R27). -/
def execClearTab (link : Station) (payload : List Byte) (s : State) : Host.Outcome State Fault Refusal :=
  requestEvent .clearTab link payload (clearTab payload) s

/-- CLEAR_TABS (R27). -/
def execClearTabs (link : Station) (payload : List Byte) (s : State) : Host.Outcome State Fault Refusal :=
  requestEvent .clearTabs link payload (noPayload payload fun s => ok (onSettings (fun c => { c with tabs := [] }) s)) s

/-! ## SET CLASSES (R4) -/

/-- The entries of a run, from its first code on; `none` when one is refused (R4). -/
def classRun : Nat → List Byte → Option (List ClassEntry)
  | _, [] => some []
  | code, k :: f :: bs =>
    match CharClass.ofNumber k.toNat, classRun (code + 1) bs with
    | some .control, _ => none
    | some .space, _ => none
    | some .letter, some es => if f.toNat < 0x20 then none else some (⟨.letter, f⟩ :: es)
    | some c, some es => some (⟨c, byte code⟩ :: es)
    | _, _ => none
  | _, _ => none

/-- SET CLASSES (R4): the form is checked before the values (notes/assumptions/46.md). -/
def setClasses (payload : List Byte) (s : State) : State × Answer :=
  match payload with
  | first :: count :: data =>
    if data.length ≠ 2 * count.toNat then answered .badRequest s
    else if count = 0 ∨ 19 < count.toNat ∨ 256 < first.toNat + count.toNat ∨ first.toNat ≤ 0x20 then answered .badValue s
    else match classRun first.toNat data with
      | none => answered .badValue s
      | some es => ok (onWheels (fun w => { w with classes := overwrite first.toNat es w.classes }) s)
  | _ => answered .badRequest s

/-- SET_CLASSES (R4). -/
def execSetClasses (link : Station) (payload : List Byte) (s : State) : Host.Outcome State Fault Refusal :=
  requestEvent .setClasses link payload (setClasses payload) s

/-! ## Wheel tables (R6 to R9, R11) -/

/-- LOAD WHEEL TABLE in one of its forms: another form byte is BAD VALUE in this row (notes/assumptions/1.md). -/
def inForm (form : Nat) (payload : List Byte) (h : State → State × Answer) (s : State) : State × Answer :=
  match payload with
  | [] => answered .badRequest s
  | f :: _ => if f.toNat = form then h s else answered .badValue s

/-- LOAD_WHEEL_TABLE_HEADER (R6). -/
def execLoadWheelTableHeader (link : Station) (payload : List Byte) (s : State) : Host.Outcome State Fault Refusal :=
  requestEvent .loadWheelTable link payload (inForm 0 payload (loadHeader payload)) s

/-- LOAD_WHEEL_TABLE_ENTRIES (R7). -/
def execLoadWheelTableEntries (link : Station) (payload : List Byte) (s : State) : Host.Outcome State Fault Refusal :=
  requestEvent .loadWheelTable link payload (inForm 1 payload (loadEntries payload)) s

/-- LOAD_WHEEL_TABLE_FINAL (R8). -/
def execLoadWheelTableFinal (link : Station) (payload : List Byte) (s : State) : Host.Outcome State Fault Refusal :=
  requestEvent .loadWheelTable link payload (inForm 2 payload (loadFinal payload)) s

/-- ERASE_WHEEL_TABLE (R9). -/
def execEraseWheelTable (link : Station) (payload : List Byte) (s : State) : Host.Outcome State Fault Refusal :=
  requestEvent .eraseWheelTable link payload (eraseTable payload) s

/-- WHEEL REPORT (R11): the form is checked before the values (notes/assumptions/46.md). -/
def wheelReport (payload : List Byte) (s : State) : State × Answer :=
  match payload with
  | [id] =>
    if 63 < id.toNat then answered .badValue s
    else if id.toNat = s.wheels.mounted then ok s
    else ok (judge (reportWheel id.toNat s))
  | _ => answered .badRequest s

/-- WHEEL_REPORT (R11). -/
def execWheelReport (link : Station) (payload : List Byte) (s : State) : Host.Outcome State Fault Refusal :=
  requestEvent .wheelReport link payload (wheelReport payload) s

end Sys2Proof.Machine
end

