-- ==== Sys2Proof/Machine/Dictionary.lean ====
section
/-! DEFINITION. Lookups and the dictionary port, outcomes, and the spelling requests (R146, R150 to R158, R161, R164). -/

namespace Sys2Proof.Machine

/-! ## Outcomes (R153, R158, R161) -/

/-- Takes tickets out of the spell queue and marks their cells UNCHECKED. -/
def uncheck (tickets : List Byte) (s : State) : State :=
  mapCells (fun c => c.ticket.any (tickets.contains ·)) (fun c => { c with mark := .unchecked })
    (onSpelling (fun p => { p with queue := p.queue.filter (!tickets.contains ·.ticket) }) s)

/-- The WAITING tickets. -/
def waiting (s : State) : List Byte := (s.spelling.queue.filter (!·.looking)).map (·.ticket)

/-- Entry into UNAVAILABLE (R153): every WAITING ticket is UNCHECKED, and SPELL UNAVAILABLE gives the reason: NO ACKNOWLEDGE 0,
SIGNATURE 1, BUCKET COUNT 2. -/
def unavailable (reason : Nat) (s : State) : State :=
  raise .spellUnavailable [byte reason]
    (uncheck (waiting s) (onSpelling (fun p => { p with dictState := .unavailable }) s))

/-- The signal of an unknown word (R161). -/
def signalUnknown (r : TicketRecord) (s : State) : State :=
  raiseTo (stationOf r.source) .unknownWord [r.number, byte r.word.length] (requestBeep .double s)

/-- SPELL HOLD for the HELD cells of an unknown word of a WORD line (R162). -/
def holdWord (n : Byte) (s : State) : State :=
  if s.lines.current.composition = some .word then
    mapCells (fun c => c.ticket = some n && c.state = .held) (fun c => { c with state := .spellHold }) s
  else s

/-- An UNKNOWN outcome acted on by the policy of the ticket's source (R161). -/
def actOnUnknown (r : TicketRecord) (s : State) : State :=
  match unknownPolicy s r.source with
  | .ignore => s
  | .signal => signalUnknown r s
  | .hold => signalUnknown r (holdWord r.number s)

/-- An outcome applied to a ticket (R158): UNKNOWN is tested again against the user word table. -/
def applyOutcome (n : Byte) (mark : SpellMark) (s : State) : State :=
  match ticketRecord s n with
  | none => onSpelling (fun p => { p with queue := p.queue.filter (·.ticket ≠ n) }) s
  | some r =>
    let mark := if mark = .unknown ∧ s.spelling.userWords.contains r.word then .known else mark
    let s := mapCells (·.ticket = some n) (fun c => { c with mark := mark })
      (onSpelling (fun p => { p with queue := p.queue.filter (·.ticket ≠ n) }) s)
    if mark = .unknown then actOnUnknown r s else s

/-! ## Transfers (R152 to R157) -/

/-- Sets the transfer in progress. -/
def setPort (x : Option Transfer) : State → State := onSpelling fun p => { p with port := x }

/-- A transfer with the rate and device address in force (R152). -/
def beginTransfer (kind : TransferKind) (address length : Nat) (s : State) : State :=
  setPort (some ⟨kind, address, length, s.spelling.rate, s.spelling.device, false⟩) s

/-- The ticket is LOOKING UP and has been cancelled. -/
def isCancelled (s : State) (n : Byte) : Bool := (ticketRecord s n).any (·.cancelled)

/-- The end of a lookup whose result is discarded (R154, R159): a cancelled ticket leaves the queue with its record, any other
returns to WAITING. -/
def lookupDropped (n : Byte) (s : State) : State :=
  if s.spelling.queue.any fun e => e.ticket = n && e.looking then
    if isCancelled s n then
      onSpelling (fun p => { p with queue := p.queue.filter (·.ticket ≠ n), tickets := p.tickets.filter (·.number ≠ n) }) s
    else
      onSpelling (fun p => { p with
        queue := p.queue.map fun e => if e.ticket = n then { e with looking := false } else e }) s
  else s

/-- A missing acknowledge in a lookup (R156, R157). -/
def lookupUnanswered (n : Byte) (s : State) : State := unavailable 0 (uncheck [n] s)

/-- The header is judged (R153): `none` when it is in order, else the reason of the first failure. -/
def headerFailure (bs : List Byte) : Option Nat :=
  let n := num ((bs.drop 3).take 2)
  if bs.take 3 ≠ [0x46, 0x4B, 0x01] then some 1
  else if (List.range 7).any fun k => n = 2 ^ (k + 6) then none
  else some 2

/-- The end of the header transfer (R153). -/
def headerEnds (x : Transfer) (reply : DictReply) (s : State) : State :=
  match reply with
  | .noAcknowledge => if x.discard then setPort none s else unavailable 0 (setPort none s)
  | .data bs =>
    if bs.length < 8 then s
    else if x.discard then setPort none s
    else match headerFailure bs with
      | some reason => unavailable reason (setPort none s)
      | none =>
        onSpelling (fun p => { p with
          port := none, dictState := .available, bucketCount := some (num ((bs.drop 3).take 2)),
          wordCount := some (num ((bs.drop 5).take 3)) }) s

/-- The folded word a lookup is for, from its ticket record (R148, R155). -/
def lookupWord (s : State) (n : Byte) : List Code :=
  match ticketRecord s n with
  | some r => r.word
  | none => []

/-- The end of a directory transfer (R156). -/
def directoryEnds (x : Transfer) (n : Byte) (reply : DictReply) (s : State) : State :=
  match reply with
  | .noAcknowledge =>
    if x.discard ∨ isCancelled s n then lookupDropped n (setPort none s) else lookupUnanswered n (setPort none s)
  | .data bs =>
    if bs.length < 6 then s
    else if x.discard ∨ isCancelled s n then lookupDropped n (setPort none s)
    else
      let a := num (bs.take 3)
      let b := num ((bs.drop 3).take 3)
      if b < a ∨ 524288 < b ∨ 2048 < b - a then applyOutcome n .unchecked (setPort none s)
      else if b = a then applyOutcome n .unknown (setPort none s)
      else beginTransfer (.body n (lookupWord s n) ⟨b - a, none⟩) a (min 128 (b - a)) s

/-- What the bytes of a body came to: an outcome, or progress (R157). -/
inductive BodyScan where
  | reached (mark : SpellMark)
  | more (progress : BodyProgress)
deriving DecidableEq, Repr

/-- The part of an entry's progress after a code that decided nothing: past the end of the entry, the next begins, and the
body's end after a smaller entry is UNKNOWN (R157). -/
def afterCode (left : Nat) (e : EntryProgress) : BodyScan :=
  if e.done < e.length then .more ⟨left, some e⟩
  else if left = 0 then .reached .unknown
  else .more ⟨left, none⟩

/-- One byte of a body, compared with the folded word (R157). -/
def bodyByte (word : List Code) (p : BodyProgress) (b : Byte) : BodyScan :=
  let left := p.left - 1
  match p.entry with
  | none =>
    if b.toNat < 2 ∨ 24 < b.toNat ∨ left < b.toNat then .reached .unchecked
    else .more ⟨left, some ⟨b.toNat, 0, false⟩⟩
  | some e =>
    let e' := { e with done := e.done + 1 }
    if e.smaller then afterCode left e'
    else match word[e.done]? with
      | none => .reached .unknown
      | some c =>
        if b.toNat < c.toNat then afterCode left { e' with smaller := true }
        else if c.toNat < b.toNat then .reached .unknown
        else if e'.done = word.length then
          if e.length = word.length then .reached .known else .reached .unknown
        else if e'.done = e.length then afterCode left { e' with smaller := true }
        else .more ⟨left, some e'⟩

/-- The bytes of a body transfer, in order, up to an outcome (R157). -/
def scanBody (word : List Code) : BodyProgress → List Byte → BodyScan
  | p, [] => .more p
  | p, b :: bs => match bodyByte word p b with
    | .reached m => .reached m
    | .more p' => scanBody word p' bs

/-- The end of a body transfer (R157): at an outcome, at its 128th byte or at the body's end. -/
def bodyEnds (x : Transfer) (n : Byte) (word : List Code) (p : BodyProgress) (reply : DictReply) (s : State) : State :=
  let dropped : Bool := x.discard || isCancelled s n
  match reply with
  | .noAcknowledge => if dropped then lookupDropped n (setPort none s) else lookupUnanswered n (setPort none s)
  | .data bs =>
    match scanBody word p (bs.take x.length) with
    | .reached m => if dropped then lookupDropped n (setPort none s) else applyOutcome n m (setPort none s)
    | .more p' =>
      if bs.length < x.length then s
      else if dropped then lookupDropped n (setPort none s)
      else beginTransfer (.body n word p') (x.address + x.length) (min 128 p'.left) s

/-- A header transfer begins while the state is READING HEADER and no transfer is in progress (R153, R154). -/
def startHeader (s : State) : State :=
  if s.spelling.dictState = .readingHeader ∧ s.spelling.port.isNone then beginTransfer .header 0 8 s else s

/-- The oldest WAITING ticket becomes LOOKING UP, and its directory transfer begins (R155, R156). -/
def startLookup (s : State) : State :=
  match s.spelling.dictState, s.spelling.port, s.spelling.bucketCount, waiting s with
  | .available, none, some n, t :: _ =>
    if s.spelling.queue.any (·.looking) then s
    else
      let b := wordHash (lookupWord s t) % n
      beginTransfer (.directory t b) (16 + 3 * b) 6
        (onSpelling (fun p => { p with
          queue := p.queue.map fun e => if e.ticket = t then { e with looking := true } else e }) s)
  | _, _, _, _ => s

/-! ## SET SPELLING, SET SKIP RULE (R146, R154) -/

/-- A transfer in progress runs to its end, and its result will be discarded. -/
def discardTransfer : State → State :=
  onSpelling fun p => { p with port := p.port.map fun x => { x with discard := true } }

/-- A write of the enable (R154). -/
def writeEnable (on : Bool) (s : State) : State :=
  let old := s.spelling.dictState
  let s := onSpelling (fun p => { p with enable := on }) s
  if on then
    if old = .readingHeader then s
    else discardTransfer (onSpelling (fun p => { p with dictState := .readingHeader }) s)
  else
    let live := (s.spelling.queue.filter fun e => !(e.looking && isCancelled s e.ticket)).map (·.ticket)
    discardTransfer (uncheck live (onSpelling (fun p => { p with dictState := .off }) s))

/-- SET SPELLING (R154): the form is checked before the values (notes/assumptions/46.md). -/
def setSpelling (payload : List Byte) (s : State) : State × Answer :=
  match settingFields [1, 1, 1, 1, 1] payload with
  | none => answered .badRequest s
  | some fs =>
    let p := s.spelling
    match enumOr fs 0 UnknownPolicy.ofNumber p.kbUnknown, enumOr fs 1 UnknownPolicy.ofNumber p.ifUnknown,
      enumOr fs 2 boolOf p.enable, enumOr fs 3 PortRate.ofNumber p.rate, enumOr fs 4 deviceOf p.device with
    | some kb, some ifc, some on, some rate, some device =>
      let s := onSpelling (fun p => { p with kbUnknown := kb, ifUnknown := ifc, rate := rate, device := device }) s
      ok (if (field fs 2).isSome then writeEnable on s else s)
    | _, _, _, _, _ => answered .badValue s

/-- A rule as it stands by power-on when absent from the list (R146). -/
def idleRule : SkipRule := ⟨false, 1, 24, .any, false⟩

/-- SET SKIP RULE (R146): the form is checked before the values (notes/assumptions/46.md). -/
def setSkipRule (payload : List Byte) (s : State) : State × Answer :=
  match payload with
  | [] => answered .badRequest s
  | n :: rest =>
    match settingFields [1, 1, 1, 1, 1] rest with
    | none => answered .badRequest s
    | some fs =>
      let r := s.spelling.skipRules.getD n.toNat idleRule
      match enumOr fs 0 boolOf r.enabled, enumOr fs 3 CasePattern.ofNumber r.pattern, enumOr fs 4 boolOf r.invert with
      | some enabled, some pattern, some invert =>
        let lo := clampOr fs 1 1 24 r.minLen
        let hi := clampOr fs 2 1 24 r.maxLen
        if 3 < n.toNat ∨ hi < lo then answered .badValue s
        else okOrClamped (outside fs 1 1 24 || outside fs 2 1 24)
          (onSpelling (fun p => { p with skipRules := p.skipRules.set n.toNat ⟨enabled, lo, hi, pattern, invert⟩ }) s)
      | _, _, _ => answered .badValue s

/-! ## ADD WORD, REMOVE WORD, SPELL ANSWER (R150, R164) -/

/-- ADD WORD (R150). -/
def addWord (payload : List Byte) (s : State) : State × Answer :=
  if isWord s payload then
    match addUserWord (foldWord s payload) s with
    | some s' => ok s'
    | none => answered .full s
  else answered .badValue s

/-- REMOVE WORD (R150). -/
def removeWord (payload : List Byte) (s : State) : State × Answer :=
  if isWord s payload then
    let w := foldWord s payload
    if s.spelling.userWords.contains w then
      ok (onSpelling (fun p => { p with userWords := p.userWords.filter (· ≠ w) }) s)
    else answered .none_ s
  else answered .badValue s

/-- The checks of SPELL ANSWER that every choice shares, the row's own choice being `choice` (R164): the form first, then the
choice, the ticket and the mark (notes/assumptions/46.md). -/
def spellAnswer (choice : Nat) (payload : List Byte) (h : Byte → State → State × Answer) (s : State) : State × Answer :=
  match payload with
  | [n, c] =>
    if c.toNat ≠ choice then answered .badValue s
    else
      let cells := (allCells s).filter (·.ticket = some n)
      if cells.isEmpty then answered .stale s
      else if cells.any (·.mark = .checking) then answered .notNow s
      else h n s
  | _ => answered .badRequest s

/-- A word is accepted (R164). -/
def acceptWord (n : Byte) : State → State :=
  mapCells (·.ticket = some n) fun c =>
    { c with mark := .accepted, state := if c.state = .spellHold then .held else c.state }

/-- A word is added to the user word table and accepted (R164). -/
def addTicketWord (n : Byte) (s : State) : State × Answer :=
  match ticketRecord s n with
  | none => answered .stale s
  | some r => match addUserWord r.word s with
    | none => answered .full s
    | some s' => ok (acceptWord n s')

/-- A word in SPELL HOLD is returned to HELD (R164). -/
def rejectWord (n : Byte) (s : State) : State × Answer :=
  if (allCells s).any fun c => c.ticket = some n && c.state = .spellHold then
    ok (mapCells (fun c => c.ticket = some n && c.state = .spellHold) (fun c => { c with state := .held }) s)
  else answered .notNow s

end Sys2Proof.Machine
end

