-- ==== Sys2Proof/Machine/DictPort.lean ====
section
/-! DEFINITION. A transfer on the dictionary port, byte by byte: the conditions, the bytes sent, the bytes received and the
acknowledge bits (R152, R157). Each is a function of the transfer in progress and of what the memory answers, as the frames of
the links are functions of their bytes (Frames.lean); between two commands no transfer stands half made. -/

namespace Sys2Proof.Machine

/-- What stands on DDA in a transfer, in its order (R152): a start or repeated start condition, a byte of the FK-410 or of the
memory with whether its receiver acknowledges it, the stop condition. -/
inductive PortItem where
  | start
  | sent (b : Byte) (acknowledged : Bool)
  | received (b : Byte) (acknowledged : Bool)
  | stop
deriving DecidableEq, Repr

/-- A byte and its acknowledge on DDA, one level for each clock of DCL: most significant bit first, then a ninth bit, in which
the receiver acknowledges by holding DDA low (R152). -/
def levels (b : Byte) (acknowledged : Bool) : List Bool := byteBits b ++ [!acknowledged]

/-! ## The address phase (steps 1 to 5 of R152) -/

/-- The device address byte (R152): the device address in bits 7 to 1, the direction bit in bit 0, 1 for reading
(notes/assumptions/50.md). -/
def deviceByte (device : Nat) (reading : Bool) : Byte := byte (device * 2 + reading.toNat)

/-- The bytes of steps 2 and 3: the device address byte for writing, then the three address bytes, most significant first. -/
def addressBytes (x : Transfer) : List Byte := deviceByte x.device false :: bytesOf 3 x.address

/-- Steps 1 to 5 with every byte acknowledged. -/
def addressPhase (x : Transfer) : List PortItem :=
  .start :: (addressBytes x).map (.sent · true) ++ [.start, .sent (deviceByte x.device true) true]

/-- A transfer that ends by a missing acknowledge (R152): the memory acknowledges the first `k` bytes of steps 2, 3 and 5 and
not the next, and the stop is sent at once. -/
def unansweredTransfer (x : Transfer) (k : Nat) : List PortItem :=
  .start :: ((addressBytes x).take k).map (.sent · true) ++ match (addressBytes x)[k]? with
    | some b => [.sent b false, .stop]
    | none => [.start, .sent (deviceByte x.device true) false, .stop]

/-! ## The data bytes (steps 6 and 7 of R152) -/

/-- How many bytes of a body are read until the outcome is reached, the byte on which it is reached included (R157). -/
def readToOutcome (word : List Code) : BodyProgress → List Byte → Nat
  | _, [] => 0
  | p, b :: bs => match bodyByte word p b with
    | .reached _ => 1
    | .more p' => readToOutcome word p' bs + 1

/-- The data bytes a transfer reads of those the memory holds from its start address on: a header or directory transfer its
length (R153, R156); a body transfer up to the outcome, its 128th byte or the body's last byte (R157). A transfer whose result
will be discarded reads what it would have read (R154, R159). -/
def dataBytes (x : Transfer) (memory : List Byte) : List Byte :=
  let bs := memory.take x.length
  match x.kind with
  | .body _ word p => bs.take (readToOutcome word p bs)
  | _ => bs

/-- Data bytes with their acknowledges: the FK-410 acknowledges each byte but the last, after which it needs none (R152, R157). -/
def acknowledgeData : List Byte → List PortItem
  | [] => []
  | [b] => [.received b false]
  | b :: bs => .received b true :: acknowledgeData bs

/-- A transfer the memory answers, from its start to its stop (R152). -/
def answeredTransfer (x : Transfer) (memory : List Byte) : List PortItem :=
  addressPhase x ++ acknowledgeData (dataBytes x memory) ++ [.stop]

end Sys2Proof.Machine
end

