-- ==== Sys2Proof/Machine/SpellingRows.lean ====
section
/-! DEFINITION. Meanings: spelling settings, words, answers and the dictionary port (chapter 8). -/

namespace Sys2Proof.Machine

/-- SET_SPELLING (R154). -/
def execSetSpelling (link : Station) (payload : List Byte) (s : State) : Host.Outcome State Fault Refusal :=
  requestEvent .setSpelling link payload (setSpelling payload) s

/-- SET_SKIP_RULE (R146). -/
def execSetSkipRule (link : Station) (payload : List Byte) (s : State) : Host.Outcome State Fault Refusal :=
  requestEvent .setSkipRule link payload (setSkipRule payload) s

/-- ADD_WORD (R150). -/
def execAddWord (link : Station) (payload : List Byte) (s : State) : Host.Outcome State Fault Refusal :=
  requestEvent .addWord link payload (addWord payload) s

/-- REMOVE_WORD (R150). -/
def execRemoveWord (link : Station) (payload : List Byte) (s : State) : Host.Outcome State Fault Refusal :=
  requestEvent .removeWord link payload (removeWord payload) s

/-- SPELL_ANSWER_ACCEPT (R164). -/
def execSpellAnswerAccept (link : Station) (payload : List Byte) (s : State) : Host.Outcome State Fault Refusal :=
  requestEvent .spellAnswer link payload (spellAnswer 0 payload fun n s => ok (acceptWord n s)) s

/-- SPELL_ANSWER_ADD (R164). -/
def execSpellAnswerAdd (link : Station) (payload : List Byte) (s : State) : Host.Outcome State Fault Refusal :=
  requestEvent .spellAnswer link payload (spellAnswer 1 payload addTicketWord) s

/-- SPELL_ANSWER_REJECT (R164). -/
def execSpellAnswerReject (link : Station) (payload : List Byte) (s : State) : Host.Outcome State Fault Refusal :=
  requestEvent .spellAnswer link payload (spellAnswer 2 payload rejectWord) s

/-- HEADER_TRANSFER_START (R153). -/
def execHeaderTransferStart (s : State) : Host.Outcome State Fault Refusal := event startHeader s

/-- The transfer in progress ends, if it is of the row's kind (R152). -/
def endTransfer (f : Transfer → TransferKind → State → State) (s : State) : State :=
  match s.spelling.port with
  | none => s
  | some x => f x x.kind s

/-- HEADER_TRANSFER_END (R153). -/
def execHeaderTransferEnd (reply : DictReply) (s : State) : Host.Outcome State Fault Refusal :=
  event (endTransfer fun x k s => match k with
    | .header => headerEnds x reply s
    | _ => s) s

/-- LOOKUP_START (R155). -/
def execLookupStart (s : State) : Host.Outcome State Fault Refusal := event startLookup s

/-- DIRECTORY_TRANSFER_END (R156). -/
def execDirectoryTransferEnd (reply : DictReply) (s : State) : Host.Outcome State Fault Refusal :=
  event (endTransfer fun x k s => match k with
    | .directory n _ => directoryEnds x n reply s
    | _ => s) s

/-- BODY_TRANSFER_END (R157). -/
def execBodyTransferEnd (reply : DictReply) (s : State) : Host.Outcome State Fault Refusal :=
  event (endTransfer fun x k s => match k with
    | .body n word p => bodyEnds x n word p reply s
    | _ => s) s

end Sys2Proof.Machine
end

