-- ==== Sys2Proof/Machine/StreamRows.lean ====
section
/-! DEFINITION. Meanings: stream intake and line holding (chapter 3). -/

namespace Sys2Proof.Machine

/-! ## KEYS, TEXT (R40 to R42, R56) -/

/-- Intake of a payload's codes (R41): those appended, how many were consumed, how many dropped. -/
def intake (src : Stream) : Nat → List Code → List Code × Nat × Nat
  | _, [] => ([], 0, 0)
  | free, c :: cs =>
    if admissible src c then
      match free with
      | 0 => ([], 0, 0)
      | k + 1 =>
        let r := intake src k cs
        (c :: r.1, r.2.1 + 1, r.2.2)
    else
      let r := intake src free cs
      (r.1, r.2.1 + 1, r.2.2 + 1)

/-- The answer to KEYS and TEXT (R41). -/
def intakeAnswer (total consumed dropped : Nat) : Answer :=
  ⟨if consumed = total then .ok else if consumed = 0 then .full else .partial_, [byte consumed, byte dropped]⟩

/-- REFUSED CHARACTERS for the codes dropped at intake, once for the request (R42). -/
def intakeDropped (src : Stream) (dropped : Nat) (s : State) : State :=
  if dropped = 0 then s else refusedCharacters src 0 dropped s

/-- KEYS (R41). -/
def takeKeys (payload : List Byte) (s : State) : State × Answer :=
  let r := intake .keyboard (64 - s.streams.typeAhead.length) payload
  (intakeDropped .keyboard r.2.2 (onStreams (fun t => { t with typeAhead := t.typeAhead ++ r.1 }) s),
    intakeAnswer payload.length r.2.1 r.2.2)

/-- The room-low flag after codes were appended (R56). -/
def noteRoom (s : State) : State :=
  if interfaceSpace s < s.streams.roomThreshold then onStreams (fun t => { t with roomLow := true }) s else s

/-- TEXT (R41, R56). -/
def takeText (payload : List Byte) (s : State) : State × Answer :=
  let r := intake .interface (256 - s.streams.interfaceQ.length) payload
  let s := onStreams (fun t => { t with interfaceQ := t.interfaceQ ++ r.1 }) s
  (intakeDropped .interface r.2.2 (if r.1 = [] then s else noteRoom s), intakeAnswer payload.length r.2.1 r.2.2)

/-- KEYS (R41). -/
def execKeys (link : Station) (payload : List Byte) (s : State) : Host.Outcome State Fault Refusal :=
  requestEvent .keys link payload (takeKeys payload) s

/-- TEXT (R41). -/
def execText (link : Station) (payload : List Byte) (s : State) : Host.Outcome State Fault Refusal :=
  requestEvent .text link payload (takeText payload) s

/-! ## Page hold (R51, R52, R54, R55) -/

/-- Page hold ON with the hold lapse timer started (R51, R53). -/
def pageHoldOn : State → State :=
  onStreams fun t => { t with pageHold := .on, lapsePending := false, lapseTimer := some t.lapseTime }

/-- HOLD LINES (R51); combinations the table does not list, which do not arise, change nothing (notes/assumptions/35.md). -/
def holdLines (s : State) : State × Answer :=
  match s.streams.holder, s.streams.pageHold with
  | some .interface, .off => if s.streams.takeover then answered .notNow s else ok (pageHoldOn s)
  | some .interface, .on => if s.streams.takeover then answered .notNow s else ok (pageHoldOn s)
  | none, .off => ok (pageHoldOn (becomeHolder .interface s))
  | some .keyboard, .off => ok (onStreams (fun t => { t with pageHold := .waiting }) s)
  | _, _ => ok s

/-- RELEASE LINES (R52). -/
def releaseLines (s : State) : State × Answer :=
  match s.streams.pageHold with
  | .off => ok s
  | .waiting => ok (onStreams (fun t => { t with pageHold := .off }) s)
  | .on =>
    let s := onStreams (fun t => { t with pageHold := .off, lapsePending := false, lapseTimer := none }) s
    ok (if s.lines.current.cells.isEmpty then noHolder s else s)

/-- TAKE LINE (R55). A takeover already marked is no exception: when the line has lost its cells since, the holder becomes
KEYBOARD at once (notes/assumptions/43.md). -/
def takeLine (s : State) : State × Answer :=
  match s.streams.holder with
  | some .interface =>
    let s := onStreams (fun t => { t with pageHold := .off, lapsePending := false, lapseTimer := none, takeover := true }) s
    ok (if s.lines.current.cells.isEmpty then
      becomeHolder .keyboard (onStreams (fun t => { t with takeover := false }) s) else s)
  | _ => answered .notNow s

/-- The hold lapse timer expires (R54). -/
def lapseExpires (s : State) : State :=
  if s.streams.lapseTimer.isNone then s
  else if s.lines.current.cells.isEmpty then
    holdLapsed false (noHolder (onStreams (fun t => { t with pageHold := .off, lapseTimer := none }) s))
  else onStreams (fun t => { t with lapsePending := true, lapseTimer := none }) s

/-- HOLD_LINES (R51). -/
def execHoldLines (link : Station) (payload : List Byte) (s : State) : Host.Outcome State Fault Refusal :=
  requestEvent .holdLines link payload (noPayload payload holdLines) s

/-- RELEASE_LINES (R52). -/
def execReleaseLines (link : Station) (payload : List Byte) (s : State) : Host.Outcome State Fault Refusal :=
  requestEvent .releaseLines link payload (noPayload payload releaseLines) s

/-- TAKE_LINE (R55). -/
def execTakeLine (link : Station) (payload : List Byte) (s : State) : Host.Outcome State Fault Refusal :=
  requestEvent .takeLine link payload (noPayload payload takeLine) s

/-- HOLD_LAPSE_EXPIRY (R54). -/
def execHoldLapseExpiry (s : State) : Host.Outcome State Fault Refusal := event lapseExpires s

/-! ## READ DIVERTED, SET STREAMS, the policies (R48 to R50, R57) -/

/-- READ DIVERTED (R50): the form is checked before the values (notes/assumptions/46.md). -/
def readDiverted (payload : List Byte) (s : State) : State × Answer :=
  match payload with
  | [n] =>
    if n = 0 ∨ 32 < n.toNat then answered .badValue s
    else if s.streams.divertQ.isEmpty then answered .none_ s
    else (onStreams (fun t => { t with divertQ := t.divertQ.drop n.toNat }) s, ⟨.ok, s.streams.divertQ.take n.toNat⟩)
  | _ => answered .badRequest s

/-- SET STREAMS (R56, R57): the form is checked before the values (notes/assumptions/46.md). -/
def setStreams (payload : List Byte) (s : State) : State × Answer :=
  match settingFields [1, 1, 2, 1] payload with
  | none => answered .badRequest s
  | some fs =>
    let t := s.streams
    match enumOr fs 0 kbPolicyOf t.kbPolicy, enumOr fs 1 ifPolicyOf t.ifPolicy, enumOr fs 3 thresholdOf t.roomThreshold with
    | some kb, some ifc, some room =>
      okOrClamped (outside fs 2 1 60) (onStreams (fun t => { t with
        kbPolicy := kb, ifPolicy := ifc, lapseTime := clampOr fs 2 1 60 t.lapseTime, roomThreshold := room,
        roomLow := if (field fs 3).isSome then decide (interfaceSpace s < room) else t.roomLow }) s)
    | _, _, _ => answered .badValue s

/-- READ_DIVERTED (R50). -/
def execReadDiverted (link : Station) (payload : List Byte) (s : State) : Host.Outcome State Fault Refusal :=
  requestEvent .readDiverted link payload (readDiverted payload) s

/-- SET_STREAMS (R57). -/
def execSetStreams (link : Station) (payload : List Byte) (s : State) : Host.Outcome State Fault Refusal :=
  requestEvent .setStreams link payload (setStreams payload) s

/-- NOT_HOLDER_DROP (R48). -/
def execNotHolderDrop (src : Stream) (s : State) : Host.Outcome State Fault Refusal := event (dropNotHolder src) s

/-- DIVERT_KEY (R49). -/
def execDivertKey (s : State) : Host.Outcome State Fault Refusal := event divertHead s

end Sys2Proof.Machine
end

