-- ==== Sys2Proof/Machine/Dispatch.lean ====
section
/-! DEFINITION. The dispatch of commands to their meanings, one arm for each row of spec/opcode_table.json. -/

namespace Sys2Proof.Machine

/-- The effect of a command on everything but the queue of waiting commands. -/
def exec (i : Instr) (s : State) : Host.Outcome State Fault Refusal :=
  match i with
  | .powerOn => Sys2Proof.Machine.execPowerOn s
  | .resetAssert => Sys2Proof.Machine.execResetAssert s
  | .resetRelease => Sys2Proof.Machine.execResetRelease s
  | .frameBadLength link => Sys2Proof.Machine.execFrameBadLength link s
  | .shortFrame link codeReceived => Sys2Proof.Machine.execShortFrame link codeReceived s
  | .overrun link => Sys2Proof.Machine.execOverrun link s
  | .unknownRequest link code payload => Sys2Proof.Machine.execUnknownRequest link code payload s
  | .answer link readToEnd => Sys2Proof.Machine.execAnswer link readToEnd s
  | .keys link payload => Sys2Proof.Machine.execKeys link payload s
  | .text link payload => Sys2Proof.Machine.execText link payload s
  | .holdLines link payload => Sys2Proof.Machine.execHoldLines link payload s
  | .releaseLines link payload => Sys2Proof.Machine.execReleaseLines link payload s
  | .readDiverted link payload => Sys2Proof.Machine.execReadDiverted link payload s
  | .takeLine link payload => Sys2Proof.Machine.execTakeLine link payload s
  | .setStreams link payload => Sys2Proof.Machine.execSetStreams link payload s
  | .setComposition link payload => Sys2Proof.Machine.execSetComposition link payload s
  | .setTab link payload => Sys2Proof.Machine.execSetTab link payload s
  | .clearTab link payload => Sys2Proof.Machine.execClearTab link payload s
  | .clearTabs link payload => Sys2Proof.Machine.execClearTabs link payload s
  | .setClasses link payload => Sys2Proof.Machine.execSetClasses link payload s
  | .loadWheelTableHeader link payload => Sys2Proof.Machine.execLoadWheelTableHeader link payload s
  | .loadWheelTableEntries link payload => Sys2Proof.Machine.execLoadWheelTableEntries link payload s
  | .loadWheelTableFinal link payload => Sys2Proof.Machine.execLoadWheelTableFinal link payload s
  | .eraseWheelTable link payload => Sys2Proof.Machine.execEraseWheelTable link payload s
  | .wheelReport link payload => Sys2Proof.Machine.execWheelReport link payload s
  | .fetchOrder link payload => Sys2Proof.Machine.execFetchOrder link payload s
  | .orderDone link payload => Sys2Proof.Machine.execOrderDone link payload s
  | .resume link payload => Sys2Proof.Machine.execResume link payload s
  | .discard link payload => Sys2Proof.Machine.execDiscard link payload s
  | .forceHome link payload => Sys2Proof.Machine.execForceHome link payload s
  | .setHomeInterval link payload => Sys2Proof.Machine.execSetHomeInterval link payload s
  | .cancelLifts link payload => Sys2Proof.Machine.execCancelLifts link payload s
  | .readNextOrder link payload => Sys2Proof.Machine.execReadNextOrder link payload s
  | .setEnergy link payload => Sys2Proof.Machine.execSetEnergy link payload s
  | .setSpelling link payload => Sys2Proof.Machine.execSetSpelling link payload s
  | .setSkipRule link payload => Sys2Proof.Machine.execSetSkipRule link payload s
  | .addWord link payload => Sys2Proof.Machine.execAddWord link payload s
  | .removeWord link payload => Sys2Proof.Machine.execRemoveWord link payload s
  | .spellAnswerAccept link payload => Sys2Proof.Machine.execSpellAnswerAccept link payload s
  | .spellAnswerAdd link payload => Sys2Proof.Machine.execSpellAnswerAdd link payload s
  | .spellAnswerReject link payload => Sys2Proof.Machine.execSpellAnswerReject link payload s
  | .showMessage link payload => Sys2Proof.Machine.execShowMessage link payload s
  | .clearMessage link payload => Sys2Proof.Machine.execClearMessage link payload s
  | .setSignals link payload => Sys2Proof.Machine.execSetSignals link payload s
  | .setLamps link payload => Sys2Proof.Machine.execSetLamps link payload s
  | .clearLamps link payload => Sys2Proof.Machine.execClearLamps link payload s
  | .beep link payload => Sys2Proof.Machine.execBeep link payload s
  | .supplyNew link payload => Sys2Proof.Machine.execSupplyNew link payload s
  | .setCounter link payload => Sys2Proof.Machine.execSetCounter link payload s
  | .countersFreeze link payload => Sys2Proof.Machine.execCountersFreeze link payload s
  | .countersRun link payload => Sys2Proof.Machine.execCountersRun link payload s
  | .countersClear link payload => Sys2Proof.Machine.execCountersClear link payload s
  | .setStepping link payload => Sys2Proof.Machine.execSetStepping link payload s
  | .stepRequest link payload => Sys2Proof.Machine.execStepRequest link payload s
  | .get link payload => Sys2Proof.Machine.execGet link payload s
  | .readStatus link payload => Sys2Proof.Machine.execReadStatus link payload s
  | .readLine link payload => Sys2Proof.Machine.execReadLine link payload s
  | .takeNotice link payload => Sys2Proof.Machine.execTakeNotice link payload s
  | .readNotice link payload => Sys2Proof.Machine.execReadNotice link payload s
  | .setNoticeRoute link payload => Sys2Proof.Machine.execSetNoticeRoute link payload s
  | .softRestart link payload => Sys2Proof.Machine.execSoftRestart link payload s
  | .composePrintable src => Sys2Proof.Machine.execComposePrintable src s
  | .backspace src => Sys2Proof.Machine.execBackspace src s
  | .tab src => Sys2Proof.Machine.execTab src s
  | .index src => Sys2Proof.Machine.execIndex src s
  | .reverseIndex src => Sys2Proof.Machine.execReverseIndex src s
  | .halfUp src => Sys2Proof.Machine.execHalfUp src s
  | .halfDown src => Sys2Proof.Machine.execHalfDown src s
  | .carriageReturn src => Sys2Proof.Machine.execCarriageReturn src s
  | .boldOn src => Sys2Proof.Machine.execBoldOn src s
  | .boldOff src => Sys2Proof.Machine.execBoldOff src s
  | .underlineOn src => Sys2Proof.Machine.execUnderlineOn src s
  | .underlineOff src => Sys2Proof.Machine.execUnderlineOff src s
  | .correct => Sys2Proof.Machine.execCorrect s
  | .wordCorrect => Sys2Proof.Machine.execWordCorrect s
  | .lineCorrect => Sys2Proof.Machine.execLineCorrect s
  | .relocate => Sys2Proof.Machine.execRelocate s
  | .cursorLeft => Sys2Proof.Machine.execCursorLeft s
  | .cursorRight => Sys2Proof.Machine.execCursorRight s
  | .delete => Sys2Proof.Machine.execDelete s
  | .marginRelease => Sys2Proof.Machine.execMarginRelease s
  | .centre src => Sys2Proof.Machine.execCentre src s
  | .flushRight src => Sys2Proof.Machine.execFlushRight src s
  | .clearLine => Sys2Proof.Machine.execClearLine s
  | .notHolderDrop src => Sys2Proof.Machine.execNotHolderDrop src s
  | .divertKey => Sys2Proof.Machine.execDivertKey s
  | .wordGroupRelease => Sys2Proof.Machine.execWordGroupRelease s
  | .wordWrap => Sys2Proof.Machine.execWordWrap s
  | .groupCellIssue => Sys2Proof.Machine.execGroupCellIssue s
  | .lineCellIssue => Sys2Proof.Machine.execLineCellIssue s
  | .heldOrderAppend => Sys2Proof.Machine.execHeldOrderAppend s
  | .homeAppend => Sys2Proof.Machine.execHomeAppend s
  | .homeCountExpiry => Sys2Proof.Machine.execHomeCountExpiry s
  | .refillExpiry => Sys2Proof.Machine.execRefillExpiry s
  | .holdLapseExpiry => Sys2Proof.Machine.execHoldLapseExpiry s
  | .sensePinChange input level => Sys2Proof.Machine.execSensePinChange input level s
  | .filterTimerExpiry input => Sys2Proof.Machine.execFilterTimerExpiry input s
  | .beepTimerExpiry => Sys2Proof.Machine.execBeepTimerExpiry s
  | .messageExpiry => Sys2Proof.Machine.execMessageExpiry s
  | .displaySnapshot dbusy => Sys2Proof.Machine.execDisplaySnapshot dbusy s
  | .displayByteSent dbusy => Sys2Proof.Machine.execDisplayByteSent dbusy s
  | .busyWaitExpiry => Sys2Proof.Machine.execBusyWaitExpiry s
  | .retryTimerExpiry dbusy => Sys2Proof.Machine.execRetryTimerExpiry dbusy s
  | .headerTransferStart => Sys2Proof.Machine.execHeaderTransferStart s
  | .headerTransferEnd reply => Sys2Proof.Machine.execHeaderTransferEnd reply s
  | .lookupStart => Sys2Proof.Machine.execLookupStart s
  | .directoryTransferEnd reply => Sys2Proof.Machine.execDirectoryTransferEnd reply s
  | .bodyTransferEnd reply => Sys2Proof.Machine.execBodyTransferEnd reply s

end Sys2Proof.Machine
end

