-- ==== Sys2Proof/Machine/Rest.lean ====
section
/-! DEFINITION. What the part does while no command waits: it takes the requests whose frames have ended (R195). -/

namespace Sys2Proof.Machine

/-- The request that waits on a link: its frame has ended, the answer buffer is BUSY (R195). -/
def waitingOn (s : State) (st : Station) : Option Request :=
  if (linkOf s st).answer = .busy then (linkOf s st).receive else none

/-- The request the part takes next, with its link. Requests on different links are separate events (R195); of several the first
link's is taken first (DESIGN CHOICE, notes/assumptions/1.md). -/
def nextWaiting (s : State) : Option (Station × Request) :=
  [Station.keyboard, .mechanism, .interface].findSome? fun st => (waitingOn s st).map fun r => (st, r)

/-- The part no longer at work, a link's buffers as they stood before the frame that waits on it. -/
def readied (st : Station) (s : State) : State :=
  onLink st (fun l => { l with receive := none, answer := .empty }) (onLinks (fun l => { l with occupied := false }) s)

/-- The part at work, or no longer at work. -/
def turned (s : State) : State := onLinks (fun l => { l with occupied := !l.occupied }) s

/-- What a step does when no command waits: nothing while RESET is held low (R202); it takes the request that waits, by the row
its code picks (R195); and when none waits, the part becomes occupied, or ceases to be (DESIGN CHOICE,
notes/assumptions/1.md, 3.md). -/
def rest (s : State) : Host.Outcome State Fault Refusal :=
  if s.resetHeld then .next s
  else match nextWaiting s with
    | some (st, r) => exec (rowOfCode st r.code r.payload) (readied st s)
    | none => .next (turned s)

end Sys2Proof.Machine
end

