-- ==== Sys2Proof/Safety.lean ====
section
/-! DEFINITION. The vocabulary of the claims: blocks and frames, requests that can be taken, and the laws that every step
keeps. -/

namespace Sys2Proof.Safety

open Sys2Proof.Machine

/-! ## Frames -/

/-- The parts of the state a frame names (00_scope.md 1.1). -/
inductive Block where
  | pending | resetHeld | wheels | streams | settings | lines | composer | dispatch | energy | correction | spelling
  | display | signals | service | links | notices
deriving DecidableEq, Repr

/-- A block is the same in both states. Of the display, the dirty flag is left aside, which R175 governs: see `Dirtied`. -/
def Same (s t : State) : Block → Prop
  | .pending => t.pending = s.pending
  | .resetHeld => t.resetHeld = s.resetHeld
  | .wheels => t.wheels = s.wheels
  | .streams => t.streams = s.streams
  | .settings => t.settings = s.settings
  | .lines => t.lines = s.lines
  | .composer => t.composer = s.composer
  | .dispatch => t.dispatch = s.dispatch
  | .energy => t.energy = s.energy
  | .correction => t.correction = s.correction
  | .spelling => t.spelling = s.spelling
  | .display => t.display = { s.display with dirty := t.display.dirty }
  | .signals => t.signals = s.signals
  | .service => t.service = s.service
  | .links => t.links = s.links
  | .notices => t.notices = s.notices

/-- Every block but those named is unchanged. -/
def Frame (changed : List Block) (s t : State) : Prop := ∀ b, b ∉ changed → Same s t b

/-- The display's dirty flag after an event that is no snapshot (R175): as before, and set when an item the display shows has
changed. -/
def Dirtied (s t : State) : Prop := t.display.dirty = (s.display.dirty || decide (shownItems s ≠ shownItems t))

/-! ## Requests -/

/-- The end of a request's frame finds the part ready to take it: RESET is high, the answer buffer is EMPTY, the declared
length is at most 40, the station has the permission (R193 to R195, R197, R202), and the part is not at work, so that the
request is taken at once (notes/assumptions/1.md). -/
abbrev Ready (k : ReqKind) (st : Station) (payload : List Byte) (s : State) : Prop :=
  s.resetHeld = false ∧ (linkOf s st).answer = .empty ∧ payload.length ≤ 40 ∧ permitted st k = true ∧
    s.links.occupied = false

/-- The answer buffer of one link holds an answer, its receive buffer is empty, the request having been taken, and nothing else of
the links has changed (R195). -/
def Answered (st : Station) (a : Answer) (s t : State) : Prop :=
  linkOf t st = { linkOf s st with receive := none, answer := .held a } ∧ t.links.occupied = s.links.occupied ∧
    ∀ st', st' ≠ st → linkOf t st' = linkOf s st'

/-- A request is taken with an answer, and leaves the state `v` but for the links (R195); the display's dirty flag follows
R175. -/
def Yields (st : Station) (a : Answer) (v s t : State) : Prop := Answered st a s t ∧ Frame [.links] v t

/-- An event that is no request leaves the state `v`; the display's dirty flag follows R175. -/
def Becomes (v t : State) : Prop := Frame [] v t

/-- A request refused, or answered without any effect: a status, an empty payload, nothing changed but the answer buffer. -/
def Refused (st : Station) (status : Status) (s t : State) : Prop := Yields st ⟨status, []⟩ s s t

/-- The composer can take the head of a stream when it is `code`: RESET is high, the line is free to the source (R44), no
order of a correction waits for room and no line release is in progress (R65). -/
abbrev Admits (src : Stream) (code : Code) (s : State) : Prop :=
  s.resetHeld = false ∧ (queueOf s src).head? = some code ∧
    (s.streams.holder = some src ∨ s.streams.holder = none ∧ s.lines.current.cells = []) ∧
    s.correction.held = [] ∧ s.composer.release = none

/-- The stream rows of the composer: the source whose head a row takes, and the codes it is for (R40, R65). -/
def streamRow : Instr → Option (Stream × (Code → Bool))
  | .composePrintable src => some (src, fun c => decide (0x20 ≤ c.toNat))
  | .backspace src => some (src, fun c => c = 0x08)
  | .tab src => some (src, fun c => c = 0x09)
  | .index src => some (src, fun c => c = 0x0A)
  | .reverseIndex src => some (src, fun c => c = 0x0B)
  | .carriageReturn src => some (src, fun c => c = 0x0D)
  | .halfUp src => some (src, fun c => c = 0x0E)
  | .halfDown src => some (src, fun c => c = 0x0F)
  | .boldOn src => some (src, fun c => c = 0x10)
  | .boldOff src => some (src, fun c => c = 0x11)
  | .underlineOn src => some (src, fun c => c = 0x12)
  | .underlineOff src => some (src, fun c => c = 0x13)
  | .correct => some (.keyboard, fun c => c = 0x14)
  | .wordCorrect => some (.keyboard, fun c => c = 0x15)
  | .lineCorrect => some (.keyboard, fun c => c = 0x16)
  | .relocate => some (.keyboard, fun c => c = 0x17)
  | .cursorLeft => some (.keyboard, fun c => c = 0x18)
  | .cursorRight => some (.keyboard, fun c => c = 0x19)
  | .delete => some (.keyboard, fun c => c = 0x1A)
  | .marginRelease => some (.keyboard, fun c => c = 0x1B)
  | .centre src => some (src, fun c => c = 0x1C)
  | .flushRight src => some (src, fun c => c = 0x1D)
  | .clearLine => some (.keyboard, fun c => c = 0x1E)
  | .powerOn | .resetAssert | .resetRelease | .frameBadLength _ | .shortFrame _ _ | .overrun _ | .unknownRequest _ _ _
  | .answer _ _ | .keys _ _ | .text _ _ | .holdLines _ _ | .releaseLines _ _ | .readDiverted _ _ | .takeLine _ _
  | .setStreams _ _ | .setComposition _ _ | .setTab _ _ | .clearTab _ _ | .clearTabs _ _ | .setClasses _ _
  | .loadWheelTableHeader _ _ | .loadWheelTableEntries _ _ | .loadWheelTableFinal _ _ | .eraseWheelTable _ _
  | .wheelReport _ _ | .fetchOrder _ _ | .orderDone _ _ | .resume _ _ | .discard _ _ | .forceHome _ _
  | .setHomeInterval _ _ | .cancelLifts _ _ | .readNextOrder _ _ | .setEnergy _ _ | .setSpelling _ _ | .setSkipRule _ _
  | .addWord _ _ | .removeWord _ _ | .spellAnswerAccept _ _ | .spellAnswerAdd _ _ | .spellAnswerReject _ _
  | .showMessage _ _ | .clearMessage _ _ | .setSignals _ _ | .setLamps _ _ | .clearLamps _ _ | .beep _ _ | .supplyNew _ _
  | .setCounter _ _ | .countersFreeze _ _ | .countersRun _ _ | .countersClear _ _ | .setStepping _ _ | .stepRequest _ _
  | .get _ _ | .readStatus _ _ | .readLine _ _ | .takeNotice _ _ | .readNotice _ _ | .setNoticeRoute _ _ | .softRestart _ _
  | .notHolderDrop _ | .divertKey | .wordGroupRelease | .wordWrap | .groupCellIssue | .lineCellIssue | .heldOrderAppend
  | .homeAppend | .homeCountExpiry | .refillExpiry | .holdLapseExpiry | .sensePinChange _ _ | .filterTimerExpiry _
  | .beepTimerExpiry | .messageExpiry | .displaySnapshot _ | .displayByteSent _ | .busyWaitExpiry | .retryTimerExpiry _
  | .headerTransferStart | .headerTransferEnd _ | .lookupStart | .directoryTransferEnd _ | .bodyTransferEnd _ => none

/-- The stream functions that flush in WORD composition: TAB, the four feeds, RETURN and RELOCATE (R65, R73). -/
def flushCodes : List Code := [0x09, 0x0A, 0x0B, 0x0D, 0x0E, 0x0F, 0x17]

/-- A cell typed at the end of the current line: P goes to its end, and a first cell takes the L snapshot again (R59, R67,
R72). -/
def typed (c : Cell) (s : State) : State :=
  { s with
    lines := { s.lines with current := { s.lines.current with
      cells := s.lines.current.cells ++ [c]
      snapshot := if s.lines.current.cells = [] then s.settings.left else s.lines.current.snapshot } }
    composer := { s.composer with p := c.start + c.width, nextCell := s.composer.nextCell + 1 } }

/-- A cell as it stays when cells are removed or become LIFTING: with a ticket that one of them carries, it loses ticket and mark,
and leaves SPELL HOLD (R159). -/
def uncaptured (gone : List Cell) (c : Cell) : Cell :=
  if c.ticket ≠ none ∧ c.ticket ∈ gone.map (·.ticket) then
    { c with ticket := none, word := none, mark := .none, state := if c.state = .spellHold then .held else c.state }
  else c

/-- A cell apart from what spelling writes into it: mark, ticket, word, and SPELL HOLD (R60, R61). -/
def unspelled (c : Cell) : Cell :=
  { c with mark := .none, ticket := none, word := none, state := if c.state = .spellHold then .held else c.state }

/-- What a RETURN does that is taken in DIRECT composition, or in WORD composition with no cell held and none being issued
(R59, R62, R63, R81, R83), whatever code is its head (R71). While a line is outgoing or no place is free, none while a HOME is held
(notes/assumptions/11.md), and while the word it ends is not captured (R149), it waits. Otherwise the word ends; the RETURN order
is made, the due HOME behind it or held for the next place (R107); the current line becomes the outgoing one, PRINTING, with the
order's serial; a line without cells begins with the layout setting, L snapshot L, P at L, cursor 0, margin release clear, bell
flag no and no group; and the hold end follows (R46), whose holder gives the composition. L is at most 1439 (R23). -/
def ReturnTaken (src : Stream) (s x : State) : Prop :=
  let left := s.settings.left
  let orders := s.dispatch.orders
  let ended := endWord (compositionFor s src) (takeHead src s)
  (s.lines.outgoing ≠ none ∨ s.dispatch.homeHeld ≠ none ∨ 32 ≤ orders.length → Becomes s x) ∧
  (ended = none → Becomes s x) ∧
  ∀ w, ended = some w → s.lines.outgoing = none → s.dispatch.homeHeld = none → orders.length < 32 →
    (let v := makeReturn left s.settings.lineSpacing (sourceOf src) w
     Becomes (judge (holdEnd { v with
       lines :=
         { current := ⟨[], s.settings.layout, none, left, .composing, none⟩
           outgoing := some { v.lines.current with state := .printing, returnSerial := some (nextSerial w) } }
       composer := { v.composer with
         p := min 1559 left, cursor := 0, marginRelease := false, bellRung := false, openGroup := [],
         closedGroups := [] } })) x) ∧
    x.lines.current = ⟨[], s.settings.layout, x.streams.holder.map (modeOf s), left, .composing, none⟩ ∧
    x.lines.outgoing.map (fun l => (l.cells.map (·.id), l.state)) = some (s.lines.current.cells.map (·.id), .printing) ∧
    x.lines.outgoing.bind (·.returnSerial) = (x.dispatch.orders[orders.length]?).map (·.serial) ∧
    (left ≤ 1559 → x.composer.p = left) ∧ x.composer.cursor = 0 ∧ x.composer.marginRelease = false ∧ x.composer.bellRung = false ∧
    x.composer.openGroup = [] ∧ x.composer.closedGroups = [] ∧
    x.dispatch.orders.map (·.job) = orders.map (·.job) ++
      [Job.plain .ret left (sourceOf src) (some s.settings.lineSpacing)] ++
      (if s.dispatch.homeDue = true ∧ orders.length < 31 then [Job.plain .home left .automatic none] else []) ∧
    x.dispatch.homeDue = (s.dispatch.homeDue && decide (orders.length = 31)) ∧
    x.dispatch.homeHeld = if s.dispatch.homeDue = true ∧ orders.length = 31 then some left else none

/-- The payload of a setting request, from its fields: two bytes in which bit n is set for a present field n, then the present
fields, each most significant byte first (R203). -/
def settingPayload (sizes : List Nat) (fs : List (Option Nat)) : List Byte :=
  bytesOf 2 ((fs.mapIdx fun n f => if f.isSome then 2 ^ n else 0).sum) ++
    (List.zipWith (fun k f => match f with
      | some v => bytesOf k v
      | none => []) sizes fs).flatten

/-- A field of a setting request in its place, or the old value. -/
def written (fs : List (Option Nat)) (i old : Nat) : Nat := (field fs i).getD old

/-- A field of a setting request brought into its range, or the old value. -/
def writtenIn (fs : List (Option Nat)) (i lo hi old : Nat) : Nat :=
  match field fs i with
  | some n => max lo (min hi n)
  | none => old

/-- A field of a setting request is present and at most `n`, or absent. -/
def atMost (fs : List (Option Nat)) (i n : Nat) : Prop := ∀ v, field fs i = some v → v ≤ n

/-- A field of a setting request is present and outside its range. -/
def exceeds (fs : List (Option Nat)) (i lo hi : Nat) : Prop := ∃ v, field fs i = some v ∧ (v < lo ∨ hi < v)

/-- The request a command is, with its link and payload. -/
def requestOf : Instr → Option (ReqKind × Station × List Byte)
  | .keys st p => some (.keys, st, p)
  | .text st p => some (.text, st, p)
  | .holdLines st p => some (.holdLines, st, p)
  | .releaseLines st p => some (.releaseLines, st, p)
  | .readDiverted st p => some (.readDiverted, st, p)
  | .takeLine st p => some (.takeLine, st, p)
  | .setStreams st p => some (.setStreams, st, p)
  | .setComposition st p => some (.setComposition, st, p)
  | .setTab st p => some (.setTab, st, p)
  | .clearTab st p => some (.clearTab, st, p)
  | .clearTabs st p => some (.clearTabs, st, p)
  | .setClasses st p => some (.setClasses, st, p)
  | .loadWheelTableHeader st p => some (.loadWheelTable, st, p)
  | .loadWheelTableEntries st p => some (.loadWheelTable, st, p)
  | .loadWheelTableFinal st p => some (.loadWheelTable, st, p)
  | .eraseWheelTable st p => some (.eraseWheelTable, st, p)
  | .wheelReport st p => some (.wheelReport, st, p)
  | .fetchOrder st p => some (.fetchOrder, st, p)
  | .orderDone st p => some (.orderDone, st, p)
  | .resume st p => some (.resume, st, p)
  | .discard st p => some (.discard, st, p)
  | .forceHome st p => some (.forceHome, st, p)
  | .setHomeInterval st p => some (.setHomeInterval, st, p)
  | .cancelLifts st p => some (.cancelLifts, st, p)
  | .readNextOrder st p => some (.readNextOrder, st, p)
  | .setEnergy st p => some (.setEnergy, st, p)
  | .setSpelling st p => some (.setSpelling, st, p)
  | .setSkipRule st p => some (.setSkipRule, st, p)
  | .addWord st p => some (.addWord, st, p)
  | .removeWord st p => some (.removeWord, st, p)
  | .spellAnswerAccept st p => some (.spellAnswer, st, p)
  | .spellAnswerAdd st p => some (.spellAnswer, st, p)
  | .spellAnswerReject st p => some (.spellAnswer, st, p)
  | .showMessage st p => some (.showMessage, st, p)
  | .clearMessage st p => some (.clearMessage, st, p)
  | .setSignals st p => some (.setSignals, st, p)
  | .setLamps st p => some (.setLamps, st, p)
  | .clearLamps st p => some (.clearLamps, st, p)
  | .beep st p => some (.beep, st, p)
  | .supplyNew st p => some (.supplyNew, st, p)
  | .setCounter st p => some (.setCounter, st, p)
  | .countersFreeze st p => some (.counters, st, p)
  | .countersRun st p => some (.counters, st, p)
  | .countersClear st p => some (.counters, st, p)
  | .setStepping st p => some (.setStepping, st, p)
  | .stepRequest st p => some (.step, st, p)
  | .get st p => some (.get, st, p)
  | .readStatus st p => some (.readStatus, st, p)
  | .readLine st p => some (.readLine, st, p)
  | .takeNotice st p => some (.takeNotice, st, p)
  | .readNotice st p => some (.readNotice, st, p)
  | .setNoticeRoute st p => some (.setNoticeRoute, st, p)
  | .softRestart st p => some (.softRestart, st, p)
  | .powerOn | .resetAssert | .resetRelease | .frameBadLength _ | .shortFrame _ _ | .overrun _ | .unknownRequest _ _ _
  | .answer _ _ | .composePrintable _ | .backspace _ | .tab _ | .index _ | .reverseIndex _ | .halfUp _ | .halfDown _
  | .carriageReturn _ | .boldOn _ | .boldOff _ | .underlineOn _ | .underlineOff _ | .correct | .wordCorrect | .lineCorrect
  | .relocate | .cursorLeft | .cursorRight | .delete | .marginRelease | .centre _ | .flushRight _ | .clearLine
  | .notHolderDrop _ | .divertKey | .wordGroupRelease | .wordWrap | .groupCellIssue | .lineCellIssue | .heldOrderAppend
  | .homeAppend | .homeCountExpiry | .refillExpiry | .holdLapseExpiry | .sensePinChange _ _ | .filterTimerExpiry _
  | .beepTimerExpiry | .messageExpiry | .displaySnapshot _ | .displayByteSent _ | .busyWaitExpiry | .retryTimerExpiry _
  | .headerTransferStart | .headerTransferEnd _ | .lookupStart | .directoryTransferEnd _ | .bodyTransferEnd _ => none

/-- A payload is not of the form of its request (R197, R203): it has not the length of the request's fields, or its presence field is
cut short, has a bit above the last field, or declares another length. KEYS, TEXT, ADD WORD and REMOVE WORD take codes of any
number; an unknown form byte of LOAD WHEEL TABLE and an unknown item of GET are values out of range. -/
def malformed (k : ReqKind) (payload : List Byte) : Bool :=
  let fields := fun (sizes : List Nat) => (settingFields sizes payload).isNone
  let fieldsBehind := fun (sizes : List Nat) => payload.isEmpty || (settingFields sizes payload.tail).isNone
  let count := fun (i : Nat) => (payload[i]?.getD 0).toNat
  match k with
  | .keys | .text | .addWord | .removeWord => false
  | .holdLines | .releaseLines | .takeLine | .clearTabs | .fetchOrder | .resume | .discard | .forceHome | .cancelLifts
  | .readNextOrder | .clearMessage | .step | .takeNotice | .readNotice | .softRestart => payload.length != 0
  | .readDiverted | .eraseWheelTable | .wheelReport | .setHomeInterval | .setLamps | .clearLamps | .beep | .counters
  | .setStepping | .readStatus => payload.length != 1
  | .setTab | .clearTab | .spellAnswer | .readLine => payload.length != 2
  | .orderDone => payload.length != 3
  | .setCounter => payload.length != 6
  | .supplyNew => payload.length != 7
  | .showMessage => payload.length < 2 || 33 < payload.length
  | .setClasses => payload.length < 2 || payload.length != 2 + 2 * count 1
  | .loadWheelTable => match payload.head? with
    | none => true
    | some 0 => payload.length != 6
    | some 1 => payload.length < 4 || payload.length != 4 + 3 * count 3
    | some 2 => payload.length != 3
    | some _ => false
  | .setStreams => fields [1, 1, 2, 1]
  | .setComposition => fields [1, 1, 1, 1, 1, 2, 2, 1, 1, 1]
  | .setEnergy => fields [1, 1, 1, 1, 1, 1, 1, 1, 1, 1]
  | .setSpelling => fields [1, 1, 1, 1, 1]
  | .setSignals => fields [1, 1, 1, 1, 1, 1]
  | .setSkipRule => fieldsBehind [1, 1, 1, 1, 1]
  | .setNoticeRoute => fieldsBehind [1, 3]
  | .get => match payload.head? with
    | none => true
    | some item =>
      if item ∈ [0, 1, 11, 12, 13, 14, 16] then payload.length != 2
      else if item = 2 then payload.length != 3
      else if item.toNat ≤ 16 then payload.length != 1
      else false

/-- The gate of a reason is closed for a head order (R92): OPEN stands last, and EMPTY is no gate of an order. -/
def Closed (s : State) (o : Order) : GateReason → Prop
  | .empty => False
  | .halted => s.dispatch.state = .halted
  | .windowFull => 4 ≤ s.dispatch.orders.countP (·.fetched)
  | .coverOpen => s.signals.cover.level ≠ .negated
  | .paperOut => (o.job.kind = .strike ∨ o.job.kind = .lift) ∧ s.signals.paper.level ≠ .negated
  | .ribbonEnd => o.job.kind = .strike ∧ s.signals.ribbon.level ≠ .negated
  | .tapeEnd => o.job.kind = .lift ∧ s.signals.tape.level ≠ .negated
  | .noTable => (o.job.kind = .strike ∨ o.job.kind = .lift) ∧ mountedTable s = none
  | .wrongWheel => o.job.kind = .lift ∧ o.job.wheel ≠ some s.wheels.mounted
  | .energy => s.energy.level < o.cost
  | .stepping => s.service.stepping = true ∧ s.service.credit = false
  | .open_ => True

/-! ## Power-on -/

/-- A sense input after power-on (R180): UNSETTLED, its timer started from 8 ms, no latch, the pin as it stands. -/
def SettlingFrom (x y : Sense) : Prop := y = { raw := x.raw, level := .unsettled, timer := some 8, latch := false }

/-- The link ports and the notice unit after power-on (the tables of chapter 11). -/
def CommunicationAtPowerOn (t : State) : Prop :=
  (∀ st, linkOf t st = { receive := none, answer := .empty, overruns := 0, sdo := [] }) ∧ t.links.occupied = false ∧
  (∀ st, boardOf t st = { pending := [], current := none }) ∧
  t.notices.routes =
    [⟨true, false, true, 9, 9, 9⟩, ⟨true, false, false, 11, 11, 11⟩, ⟨true, false, true, 14, 14, 14⟩,
     ⟨true, true, false, 12, 12, 12⟩, ⟨true, false, false, 10, 10, 10⟩, ⟨false, false, false, 7, 7, 7⟩,
     ⟨true, false, false, 6, 6, 6⟩, ⟨true, false, false, 4, 4, 4⟩, ⟨false, false, false, 5, 5, 5⟩,
     ⟨false, false, false, 8, 8, 8⟩, ⟨false, false, false, 8, 8, 8⟩, ⟨true, false, true, 9, 9, 9⟩,
     ⟨true, false, false, 6, 6, 6⟩, ⟨true, false, false, 3, 3, 3⟩, ⟨false, false, false, 13, 13, 13⟩,
     ⟨false, true, false, 10, 10, 10⟩, ⟨true, false, false, 5, 5, 5⟩]

/-- Wheels, streams, settings, lines and composer after power-on (the tables of chapters 1 to 4). -/
def TextAtPowerOn (t : State) : Prop :=
  t.wheels.slots = [.empty, .empty, .empty, .empty] ∧ t.wheels.mounted = 63 ∧
  t.streams =
    { typeAhead := [], interfaceQ := [], divertQ := [], holder := none, pageHold := .off, lapsePending := false,
      takeover := false, lapseTimer := none, roomLow := false, kbPolicy := .wait, ifPolicy := .wait, lapseTime := 10,
      roomThreshold := 64 } ∧
  t.settings =
    { kbMode := .direct, ifMode := .direct, autoReturn := true, lineSpacing := 2, pitch := .p10, left := 120,
      right := 900, hotZone := 72, xmax := 24, layout := .left, tabs := [] } ∧
  t.lines =
    { current := ⟨[], .left, none, 120, .composing, none⟩,
      outgoing := none } ∧
  t.composer.p = 120 ∧ t.composer.cursor = 0 ∧ t.composer.kbAttr = ⟨false, false⟩ ∧ t.composer.ifAttr = ⟨false, false⟩ ∧
  t.composer.marginRelease = false ∧ t.composer.bellRung = false ∧ t.composer.openGroup = [] ∧
  t.composer.closedGroups = [] ∧ t.composer.issue = none ∧ t.composer.release = none

/-- Orders, energy, correction and spelling after power-on (the tables of chapters 5 to 8). -/
def WorkAtPowerOn (t : State) : Prop :=
  t.dispatch =
    { orders := [{ serial := 0, fetched := false, travel := 120, cost := 1, job := Job.plain .init 120 .automatic none }],
      counter := 1, state := .running, c := 0, offerable := false, homeInterval := 20, homeCount := 2000, homeDue := false,
      homeHeld := none } ∧
  t.energy =
    { level := 96, capacity := 96, cost1 := 2, cost2 := 3, cost3 := 4, cost4 := 6, surcharge := 2, boost := 0,
      refill := 3, travelCharge := true, impression := .normal, refillRunning := true } ∧
  t.correction.memory = [] ∧ t.correction.held = [] ∧ t.correction.wrongWheel = none ∧
  t.spelling =
    { openWord := [], pendingApos := none, ticketCounter := 0, tickets := [], queue := [], userWords := [],
      skipRules := [⟨true, 2, 24, .allCapitals, false⟩, ⟨false, 1, 24, .any, false⟩, ⟨false, 1, 24, .any, false⟩,
        ⟨false, 1, 24, .any, false⟩],
      dictState := .readingHeader, bucketCount := none, wordCount := none, overflow := 0, kbUnknown := .signal,
      ifUnknown := .ignore, enable := true, rate := .khz100, device := 0x54,
      port := some { kind := .header, address := 0, length := 8, rate := .khz100, device := 0x54, discard := false } }

/-- Display, sense and signal block and service block after power-on (the tables of chapters 9 and 10), the pins of `s` as
they stand. -/
def PanelAtPowerOn (s t : State) : Prop :=
  t.display.ws = 0 ∧ t.display.kbSlot = none ∧ t.display.ifSlot = none ∧ t.display.dirty = true ∧ t.display.phase = .idle ∧
  t.display.frame = none ∧ t.display.busyWait = false ∧ t.display.retryTimer = false ∧ t.display.dbusy = s.display.dbusy ∧
  SettlingFrom s.signals.cover t.signals.cover ∧ SettlingFrom s.signals.paper t.signals.paper ∧
  SettlingFrom s.signals.ribbon t.signals.ribbon ∧ SettlingFrom s.signals.tape t.signals.tape ∧ t.signals.filterTime = 8 ∧
  t.signals.lamps = [⟨.manual, false⟩, ⟨.interfaceHold, false⟩, ⟨.halted, false⟩, ⟨.supplyLow, false⟩] ∧
  t.signals.beeper = none ∧ t.signals.tone = 20 ∧
  t.service =
    { ribbon := 16777215, ribbonThreshold := 0, tape := 65535, tapeThreshold := 0,
      counters := [⟨0, false, .orders, 1, 1, 0, 0⟩, ⟨0, false, .orders, 2, 2, 0, 0⟩, ⟨0, false, .steps, 0, 0, 0, 0⟩,
        ⟨0, false, .tokens, 0, 0, 0, 0⟩],
      frozen := false, stepping := false, credit := false }

/-- The state after power-on of every block (R202): RESET high, the waiting commands and the pins of `s` kept. -/
def PoweredFrom (s t : State) : Prop :=
  t.pending = s.pending ∧ t.resetHeld = false ∧ CommunicationAtPowerOn t ∧ TextAtPowerOn t ∧ WorkAtPowerOn t ∧
    PanelAtPowerOn s t

/-! ## The laws that every step keeps -/

/-- The three stream queues within their capacities, every code in a stream admissible from its source, the stream settings
within their values (R39, R40, R47, R53, R56; Law 11). -/
abbrev StreamsOk (t : Streams) : Prop :=
  t.typeAhead.length ≤ 64 ∧ t.interfaceQ.length ≤ 256 ∧ t.divertQ.length ≤ 16 ∧
    (∀ c ∈ t.typeAhead, admissible .keyboard c = true) ∧ (∀ c ∈ t.interfaceQ, admissible .interface c = true) ∧
    t.ifPolicy ≠ .divert ∧ 1 ≤ t.lapseTime ∧ t.lapseTime ≤ 60 ∧
    (t.roomThreshold = 32 ∨ t.roomThreshold = 64 ∨ t.roomThreshold = 128 ∨ t.roomThreshold = 192)

/-- The line holder and what goes with it (R44, R46, R51, R53, R55, R62): a line that nobody holds is empty, without a
composition and without a page hold; WAITING stands under KEYBOARD, ON under INTERFACE without a takeover, a takeover under
INTERFACE with page hold OFF; a lapse is pending only while ON, and the timer runs exactly while ON without a pending lapse. -/
abbrev HolderOk (s : State) : Prop :=
  (s.streams.holder = none →
    s.lines.current.cells = [] ∧ s.lines.current.composition = none ∧ s.streams.pageHold = .off ∧ s.streams.takeover = false) ∧
  (s.streams.holder ≠ none → s.lines.current.composition ≠ none) ∧
  (s.streams.pageHold = .waiting → s.streams.holder = some .keyboard) ∧
  (s.streams.pageHold = .on → s.streams.holder = some .interface ∧ s.streams.takeover = false) ∧
  (s.streams.takeover = true → s.streams.holder = some .interface ∧ s.streams.pageHold = .off) ∧
  (s.streams.lapsePending = true → s.streams.pageHold = .on) ∧
  (s.streams.lapseTimer ≠ none ↔ s.streams.pageHold = .on ∧ s.streams.lapsePending = false)

/-- Law 5 (R44): a cell that a step creates stands in the current line, whose holder is the cell's source, before the step too
unless the line had no holder and no cells. -/
def CreatesForItsHolder (s t : State) : Prop :=
  ∀ c ∈ allCells t, (∀ d ∈ allCells s, d.id ≠ c.id) →
    c ∈ t.lines.current.cells ∧ t.streams.holder = some c.source ∧
      (s.streams.holder = some c.source ∨ s.streams.holder = none ∧ s.lines.current.cells = [])

/-- Law 1 (R89): at most 32 orders, at most 4 FETCHED, the FETCHED ones the oldest. -/
abbrev QueueOk (d : Dispatch) : Prop :=
  d.orders.length ≤ 32 ∧ d.orders.countP (·.fetched) ≤ 4 ∧ d.orders.Pairwise fun a b => b.fetched = true → a.fetched = true

/-- The serials of the orders of the queue and of the strike records are all different, and both lists are within their
capacities (R88, R121; Laws 1 and 2). -/
abbrev SerialsOk (s : State) : Prop :=
  s.dispatch.orders.length ≤ 32 ∧ s.correction.memory.length ≤ 240 ∧
    (s.dispatch.orders.map (·.serial) ++ s.correction.memory.map (·.serial)).Nodup

/-- Law 3 and the ranges of the energy settings (R110, R111, R118). -/
abbrev EnergyOk (e : Energy) : Prop :=
  e.level ≤ e.capacity ∧ 16 ≤ e.capacity ∧ e.capacity ≤ 255 ∧ 1 ≤ e.cost1 ∧ e.cost1 ≤ 15 ∧ 1 ≤ e.cost2 ∧ e.cost2 ≤ 15 ∧
    1 ≤ e.cost3 ∧ e.cost3 ≤ 15 ∧ 1 ≤ e.cost4 ∧ e.cost4 ≤ 15 ∧ e.surcharge ≤ 15 ∧ e.boost ≤ 1 ∧ 1 ≤ e.refill ∧ e.refill ≤ 15

/-- The composition settings within their ranges, and the tab stops strictly ascending, at most 16, at most 1559 (R23, R24,
R26, R64). -/
abbrev SettingsOk (c : Settings) : Prop :=
  c.left + 120 ≤ c.right ∧ c.left ≤ 1439 ∧ c.right ≤ 1559 ∧ c.hotZone ≤ 240 ∧ c.xmax ≤ 48 ∧ 2 ≤ c.lineSpacing ∧
    c.lineSpacing ≤ 6 ∧ (c.layout = .left ∨ c.layout = .justify) ∧ c.tabs.length ≤ 16 ∧ (∀ x ∈ c.tabs, x ≤ 1559) ∧
    c.tabs.Pairwise (· < ·)

/-- The line records hold at most 160 cells each (R59; Law 11). -/
abbrev LinesOk (l : LineStore) : Prop := l.current.cells.length ≤ 160 ∧ ∀ o ∈ l.outgoing, o.cells.length ≤ 160

/-- The spell queue holds at most 8 tickets; the user word table holds at most 128 words and no duplicate (R150, R155;
Law 11). -/
abbrev SpellingOk (p : Spelling) : Prop := p.queue.length ≤ 8 ∧ p.userWords.length ≤ 128 ∧ p.userWords.Nodup

/-- A pending map: one record at most for a kind, in ascending order of kind, each with a count from 1 to 15 (R199;
Law 10). -/
abbrev BoardOk (b : NoticeBoard) : Prop :=
  (b.pending.Pairwise fun x y => x.kind.number < y.kind.number) ∧ ∀ n ∈ b.pending, 1 ≤ n.count ∧ n.count ≤ 15

/-- Law 10 for the three stations. -/
abbrev NoticesOk (n : Notices) : Prop := BoardOk n.keyboard ∧ BoardOk n.mechanism ∧ BoardOk n.interface

/-- The display port (R176 to R178): a frame of 40 bytes with a next byte exists exactly while SENDING, the busy wait timer
runs only then, the retry timer exactly in RETRY WAIT. -/
abbrev DisplayOk (d : Display) : Prop :=
  (d.phase = .sending ↔ d.frame ≠ none) ∧ (∀ f ∈ d.frame, f.bytes.length = 40 ∧ f.next ≤ 39) ∧
    (d.busyWait = true → d.phase = .sending) ∧ (d.retryTimer = true ↔ d.phase = .retryWait)

/-- The service block (R185, R187): supply counts and counter values within their ranges. -/
abbrev ServiceOk (v : Service) : Prop :=
  v.ribbon ≤ 16777215 ∧ v.ribbonThreshold ≤ 16777215 ∧ v.tape ≤ 65535 ∧ v.tapeThreshold ≤ 65535 ∧ v.counters.length = 4 ∧
    ∀ c ∈ v.counters, c.value ≤ 4294967295

/-- The link ports (R193 to R195): a request stands in the receive buffer exactly while the answer buffer is BUSY, its payload
is of at most 40 bytes, and its code is not the one that opens an ANSWER frame. -/
abbrev PortsOk (s : State) : Prop :=
  ∀ st, ((linkOf s st).answer = .busy ↔ (linkOf s st).receive ≠ none) ∧
    ∀ r ∈ (linkOf s st).receive, r.payload.length ≤ 40 ∧ r.code ≠ answerCode

/-- The offerable flag stands exactly while the head order is offerable (R92, R93). -/
abbrev OfferOk (s : State) : Prop := s.dispatch.offerable = isOfferable s

/-- The widths of a slot are within the ranges of LOAD WHEEL TABLE (R5, R7): its header's SPACE width and its entries' widths. -/
def slotOk : Slot → Bool
  | .empty => true
  | .loading h es _ => h.space ≤ 6 && es.all (·.width ≤ 6)
  | .loaded h es => h.space ≤ 6 && es.all (·.width ≤ 6)

/-- The wheel tables hold no width above 6 units (R5, R7). -/
abbrev WheelsOk (w : WheelStore) : Prop := ∀ x ∈ w.slots, slotOk x = true

/-- The cells of a line stand within the positions of the carriage, each with its end (R18). -/
abbrev WithinCarriage (cells : List Cell) : Prop := ∀ c ∈ cells, c.start + c.width ≤ 1559

/-- Law 4 (R18): order targets, those of waiting orders and of a held HOME included, cells, strike record positions, L snapshots,
P and C lie between 0 and 1559. -/
abbrev PositionsOk (s : State) : Prop :=
  s.composer.p ≤ 1559 ∧ s.dispatch.c ≤ 1559 ∧ (∀ o ∈ s.dispatch.orders, o.job.target ≤ 1559) ∧
    (∀ j ∈ s.correction.held, j.target ≤ 1559) ∧ (∀ x ∈ s.dispatch.homeHeld, x ≤ 1559) ∧
    (∀ r ∈ s.correction.memory, r.position ≤ 1559) ∧ WithinCarriage (allCells s) ∧ s.lines.current.snapshot ≤ 1559

/-- No PENDING order carries a cost that the bucket cannot hold (R118, R120). -/
abbrev CostsOk (s : State) : Prop := ∀ o ∈ s.dispatch.orders, o.fetched = false → o.cost ≤ s.energy.capacity

/-- The orders of the queue and those of a correction that wait for room, as jobs. -/
abbrev jobsOf (s : State) : List Job := s.dispatch.orders.map (·.job) ++ s.correction.held

/-- What names a cell for one strike role: the STRIKE orders of the queue and the strike records. -/
abbrev strikeRefs (s : State) : List (Option Nat × Option Role) :=
  ((s.dispatch.orders.filter (·.job.kind = .strike)).map fun o => (o.job.cell, o.job.role)) ++
    s.correction.memory.map fun r => (r.cell, r.role)

/-- The model's cell ids name one cell each, and every id in use is below the next one. -/
abbrev CellIdsOk (s : State) : Prop :=
  ((allCells s).map (·.id)).Nodup ∧ (∀ c ∈ allCells s, c.id < s.composer.nextCell) ∧
    (∀ j ∈ jobsOf s, ∀ id ∈ j.cell, id < s.composer.nextCell) ∧
    ∀ g ∈ s.composer.issue, ∀ id ∈ g.left, id < s.composer.nextCell

/-- Law 8 (R61): a cell in state HELD or SPELL HOLD has no order and no strike record. -/
abbrev HeldCellsOk (s : State) : Prop :=
  ∀ c ∈ allCells s, c.isHeld = true →
    (∀ j ∈ jobsOf s, j.cell ≠ some c.id) ∧ ∀ r ∈ s.correction.memory, r.cell ≠ some c.id

/-- Law 9 (R137): a strike record names a cell of the current or the outgoing line, in state PRINTED, RELEASED or LIFTING; so does
a STRIKE order. One strike at most stands for a role of a cell. -/
abbrev StrikesOk (s : State) : Prop :=
  (∀ x ∈ strikeRefs s, x.2 ≠ none ∧ ∃ c ∈ allCells s, x.1 = some c.id ∧
    (c.state = .printed ∨ c.state = .released ∨ c.state = .lifting)) ∧ (strikeRefs s).Nodup

/-- The LIFTs and what they are linked to (R86, R121, R134, R137): only a LIFT has a link, the cell of a LIFT is LIFTING while it
stands, a link to a FETCHED or returned STRIKE names one of the same cell, a link to a record that stands one of the same cell,
and a record is LIFT PENDING only while a LIFT is linked to it. No STRIKE waits for room. -/
abbrev LinksOk (s : State) : Prop :=
  (s.correction.memory.map (·.id)).Nodup ∧ (∀ r ∈ s.correction.memory, r.id < s.correction.nextRecord) ∧
    (∀ j ∈ s.correction.held, j.kind ≠ .strike) ∧
    (∀ j ∈ jobsOf s, j.link ≠ none → j.kind = .lift) ∧
    (∀ j ∈ jobsOf s, j.kind = .lift → ∀ c ∈ allCells s, j.cell = some c.id → c.state = .lifting) ∧
    (∀ j ∈ jobsOf s, j.link ≠ none → j.recordId = none → ∃ o ∈ s.dispatch.orders, j.link = some (.serial o.serial) ∧
      o.job.kind = .strike ∧ o.job.cell = j.cell) ∧
    (∀ j ∈ jobsOf s, ∀ id ∈ j.recordId, id < s.correction.nextRecord ∧
      ∀ r ∈ s.correction.memory, r.id = id → j.cell = r.cell) ∧
    ∀ r ∈ s.correction.memory, r.pending = true → ∃ j ∈ jobsOf s, j.recordId = some r.id

/-- A LINE line holds held cells only, none of them in a group issue (R60, R77). The outgoing line either is being released or has
its RETURN order in the queue, behind which no STRIKE of its cells stands (R59, R82, R83). -/
abbrev LineEndsOk (s : State) : Prop :=
  (s.lines.current.composition = some .line → ∀ c ∈ s.lines.current.cells, c.isHeld = true ∧
    ∀ g ∈ s.composer.issue, c.id ∉ g.left) ∧
  ∀ l ∈ s.lines.outgoing, (s.composer.release = none ↔ l.returnSerial ≠ none) ∧
    ∀ n ∈ l.returnSerial, let behind := s.dispatch.orders.dropWhile fun o => !(o.job.kind = .ret && o.serial = n)
      behind ≠ [] ∧ ∀ o ∈ behind, o.job.kind = .strike → ∀ c ∈ l.cells, o.job.cell ≠ some c.id

/-- Laws 8 and 9 with what ties the orders, the strike records and the cells of the line store together. -/
abbrev ReferencesOk (s : State) : Prop := CellIdsOk s ∧ HeldCellsOk s ∧ StrikesOk s ∧ LinksOk s ∧ LineEndsOk s

/-- Every step from a state with a property leads to a state with it. -/
def Kept (p : State → Prop) : Prop := ∀ s t, p s → Machine.step s = .next t → p t

end Sys2Proof.Safety
end

