-- ==== Sys2Proof/Certificates/Slice0/Obligations.lean ====
section
/-! DEFINITION. The statements for the provers, rule by rule of spec/. -/

open Sys2Proof Sys2Proof.Machine Sys2Proof.Safety

/-! ## The part as a machine -/

/-- One step takes the command at the front of the queue and runs it with the queue's rest. With no command waiting the part
rests, and takes the request that waits on a link, its answer buffer BUSY, by the row of the frame that brought it, as a part
that is not at work takes it at the frame's end (R195). That this is when it is taken, the request of the first link first; that
the part becomes occupied, or ceases to be, where none waits; and that it does nothing while RESET is held low, are the model's
choice (notes/assumptions/1.md, 3.md). -/
def Obligations.StepRunsTheFrontCommand : Prop :=
  (∀ c rest s, s.pending = c :: rest → Machine.step s = Machine.exec c { s with pending := rest }) ∧
  ∀ s, s.pending = [] →
    let waits := fun st : Station => (linkOf s st).answer = .busy ∧ (linkOf s st).receive ≠ none
    (s.resetHeld = true → Machine.step s = .next s) ∧
    (s.resetHeld = false → (∀ st, ¬ waits st) →
      Machine.step s = .next { s with links := { s.links with occupied := !s.links.occupied } }) ∧
    ∀ before st after (r : Request), s.resetHeld = false →
      [Station.keyboard, .mechanism, .interface] = before ++ st :: after → (∀ st' ∈ before, ¬ waits st') →
      (linkOf s st).answer = .busy → (linkOf s st).receive = some r → r.code ≠ 0xFF → r.payload.length ≤ 40 →
      ∃ u : State, { u with links := s.links } = s ∧ u.links.occupied = false ∧
        linkOf u st = { linkOf s st with receive := none, answer := .empty } ∧
        (∀ st', st' ≠ st → linkOf u st' = linkOf s st') ∧
        Machine.step s = Machine.exec (frameRow u st (r.code :: byte r.payload.length :: r.payload)) u

/-- Every command, in every state, completes with a next state, and leaves the queue of waiting commands as it is. Both are the
model's: a step whose conditions do not hold leaves the state (notes/assumptions/2.md), and the queue of waiting commands is its
own (notes/assumptions/3.md). What each command does, and when, stands in the statements below. -/
def Obligations.EveryCommandCompletesAndLeavesTheQueue : Prop :=
  ∀ c s, ∃ t, Machine.exec c s = .next t ∧ t.pending = s.pending

/-- The fall of RESET empties the maps, sets every current notice to NONE, silences the beeper, makes both ports idle and leaves
nothing on SDO (R202); that nothing else changes, and that a fall of a held input changes nothing, is the model's reading
(notes/assumptions/36.md). While RESET is held low no event is taken: only power, the input's rise and, by the model's choice
(notes/assumptions/7.md), the raw level of a sense pin reach the part; every ATN line is negated and every lamp dark. While it
is high, each ATN line is asserted exactly when its station's map is not empty (Law 10, R199), and each lamp is lit exactly while
its function calls for it (R182), SPELL PENDING by R163. -/
def Obligations.ResetHoldsThePart : Prop :=
  (∀ c s, s.resetHeld = true →
    (c ≠ .powerOn → c ≠ .resetRelease → (∀ i l, c ≠ .sensePinChange i l) → Machine.exec c s = .next s) ∧
    (∀ st, attention s st = false) ∧ ∀ b ∈ lampOutputs s, b = false) ∧
  (∀ s, s.resetHeld = false → (∀ st, attention s st = true ↔ (boardOf s st).pending ≠ []) ∧
    (lampOutputs s).length = s.signals.lamps.length ∧
    ∀ (i : Nat) l, s.signals.lamps[i]? = some l → ∃ lit, (lampOutputs s)[i]? = some lit ∧
      (lit = true ↔ match l.function with
        | .manual => l.manual = true
        | .interfaceHold => s.streams.holder = some .interface
        | .halted => s.dispatch.state = .halted
        | .spellPending => (∃ c ∈ s.lines.current.cells, c.state = .spellHold) ∨ s.lines.current.composition = some .line ∧
          ((∃ c ∈ s.lines.current.cells, c.mark = .unknown ∧ unknownPolicy s c.source = .hold) ∨
            ∃ h, s.streams.holder = some h ∧ (queueOf s h).head? = some 0x0D ∧
              (hasOpenRun s = true ∨ ∃ c ∈ s.lines.current.cells, c.mark = .checking))
        | .supplyLow => s.service.ribbon ≤ s.service.ribbonThreshold ∨ s.service.tape ≤ s.service.tapeThreshold ∨
          s.signals.ribbon.level ≠ .negated ∨ s.signals.tape.level ≠ .negated)) ∧
  ∀ s, s.resetHeld = false → ∃ t, Machine.exec .resetAssert s = .next t ∧ t.resetHeld = true ∧
    (∀ st, boardOf t st = { pending := [], current := none }) ∧ t.notices.routes = s.notices.routes ∧
    t.signals = { s.signals with beeper := none } ∧
    t.display = { s.display with phase := .idle, frame := none, busyWait := false, retryTimer := false } ∧
    t.spelling = { s.spelling with port := none } ∧ (∀ st, linkOf t st = { linkOf s st with sdo := [] }) ∧
    Frame [.resetHeld, .notices, .signals, .display, .spelling, .links] s t

/-- POWER_ON, and the rise of a RESET input that was held low, give every block its power-on values (R202), the character class
table among them (R3), which SOFT RESTART leaves as it stands. That the pins and the waiting commands are kept is
notes/assumptions/7.md; that POWER_ON leaves RESET released and a rise without a fall changes nothing, notes/assumptions/36.md. -/
def Obligations.PowerOnValues : Prop :=
  ((∀ s, ∃ t, Machine.exec .powerOn s = .next t ∧ PoweredFrom s t) ∧
  (∀ s, s.resetHeld = true → ∃ t, Machine.exec .resetRelease s = .next t ∧ PoweredFrom s t) ∧
  (∀ s, s.resetHeld = false → Machine.exec .resetRelease s = .next s)) ∧
  (∀ s t, Machine.exec .powerOn s = .next t ∨ s.resetHeld = true ∧ Machine.exec .resetRelease s = .next t → ∀ c : Code,
    (c.toNat ≤ 0x1F → classEntry t c = ⟨.control, c⟩) ∧ (c.toNat = 0x20 → classEntry t c = ⟨.space, 0x20⟩) ∧
    (c.toNat = 0x27 → classEntry t c = ⟨.apostrophe, 0x27⟩) ∧ (c.toNat = 0x2D → classEntry t c = ⟨.hyphen, 0x2D⟩) ∧
    (0x30 ≤ c.toNat ∧ c.toNat ≤ 0x39 → classEntry t c = ⟨.digit, c⟩) ∧
    (0x41 ≤ c.toNat ∧ c.toNat ≤ 0x5A → classEntry t c = ⟨.letter, c + 0x20⟩) ∧
    (0x61 ≤ c.toNat ∧ c.toNat ≤ 0x7A → classEntry t c = ⟨.letter, c⟩) ∧ (0xC0 ≤ c.toNat → classEntry t c = ⟨.letter, c⟩) ∧
    (0x21 ≤ c.toNat ∧ c.toNat ≤ 0xBF ∧ c.toNat ≠ 0x27 ∧ c.toNat ≠ 0x2D ∧ ¬ (0x30 ≤ c.toNat ∧ c.toNat ≤ 0x39) ∧
      ¬ (0x41 ≤ c.toNat ∧ c.toNat ≤ 0x5A) ∧ ¬ (0x61 ≤ c.toNat ∧ c.toNat ≤ 0x7A) → classEntry t c = ⟨.punct, c⟩)) ∧
  ∀ st p s t, Machine.exec (.softRestart st p) s = .next t → t.wheels.classes = s.wheels.classes

/-- SOFT_RESTART, from the keyboard station (R202, with R58, R85, R109, R124, R165, R179): the answer, what each block loses and
what it keeps; the INIT order with target L takes the next serial and is judged. -/
def Obligations.SoftRestartEffects : Prop :=
  ∀ st payload s, Ready .softRestart st payload s →
    (payload ≠ [] → ∃ t, Machine.exec (.softRestart st payload) s = .next t ∧ Refused st .badRequest s t) ∧
    (payload = [] → ∃ t, Machine.exec (.softRestart st []) s = .next t ∧ Answered st ⟨.ok, []⟩ s t ∧
      t.wheels.mounted = s.wheels.mounted ∧ t.wheels.classes = s.wheels.classes ∧
      t.wheels.slots = s.wheels.slots.map (fun x => match x with
        | .loading _ _ _ => .empty
        | y => y) ∧
      t.streams =
        { s.streams with
          typeAhead := [], interfaceQ := [], divertQ := [], holder := none, pageHold := .off, lapsePending := false,
          takeover := false, lapseTimer := none, roomLow := false } ∧
      t.lines = { current := ⟨[], s.settings.layout, none, s.settings.left, .composing, none⟩, outgoing := none } ∧
      t.composer.p = s.settings.left ∧ t.composer.cursor = 0 ∧ t.composer.kbAttr = ⟨false, false⟩ ∧
      t.composer.ifAttr = ⟨false, false⟩ ∧ t.composer.marginRelease = false ∧ t.composer.bellRung = false ∧
      t.composer.openGroup = [] ∧ t.composer.closedGroups = [] ∧ t.composer.issue = none ∧ t.composer.release = none ∧
      t.dispatch =
        { s.dispatch with
          orders := [⟨s.dispatch.counter, false, distance s.settings.left s.dispatch.c,
            min s.energy.capacity (travelPart s.energy (distance s.settings.left s.dispatch.c)),
            Job.plain .init s.settings.left .automatic none⟩],
          counter := s.dispatch.counter + 1, state := .running, homeDue := false, homeHeld := none,
          offerable := isOfferable t } ∧
      (let u := { s with notices := { s.notices with keyboard := ⟨[], none⟩, mechanism := ⟨[], none⟩, interface := ⟨[], none⟩ } }
       t.notices = (if isOfferable t = true then raise .ordersWaiting [s.dispatch.counter] u else u).notices) ∧
      t.correction = { s.correction with memory := [], held := [], wrongWheel := none } ∧
      t.spelling =
        { s.spelling with
          openWord := [], pendingApos := none, tickets := [], queue := [], overflow := 0,
          port := s.spelling.port.map fun x => if x.kind = .header then x else { x with discard := true } } ∧
      t.display = { s.display with kbSlot := none, ifSlot := none, ws := 0, dirty := true } ∧
      Frame [.links, .wheels, .streams, .lines, .composer, .dispatch, .correction, .spelling, .display, .notices] s t)

/-! ## Station links -/

/-- Frames byte by byte, and those that bring no request. The part acknowledges a code, a length of at most 40 and the declared
payload; it refuses a length above 40 with every byte after it, and bytes after the payload (R193), every byte of a request
frame while the answer buffer is not EMPTY (R194), and every byte while RESET is held low (R202). The bytes and the state pick
the command that the frame's end is, a complete request by the code table (R203). A frame that ends while the answer buffer is
not EMPTY is lost: the overrun count of the link rises by one, stopping at 255, and LINK ERROR is raised with reason OVERRUN;
so for every request (R194). While the buffer is EMPTY, a length above 40 empties the receive buffer and raises BAD LENGTH, a
frame cut short after its code byte raises SHORT FRAME (R193), and a code that names no request is answered BAD REQUEST by a
part that is not at work (R195; notes/assumptions/1.md). Bit by bit (R192): a byte goes most significant bit first in eight
pulses, and the ninth is its receiver's acknowledge, on SDO where the part receives; a byte cut short is discarded, one without
its ninth pulse too by the model's reading; SDO is not driven while RESET is held low (R202).
The reasons' numbers are notes/assumptions/28.md, the frame as a function of state and bytes 47.md. -/
def Obligations.FramesThatAreNoRequest : Prop :=
  (∀ b : Byte, (byteBits b).length = 8 ∧ ∀ i, i < 8 → (byteBits b)[i]? = some (b.toNat.testBit (7 - i))) ∧
  (∀ s st (frame : List (Byte × Bool)) (short : List Bool), short.length < 9 →
    let bytes := frame.map (·.1)
    let sdi := (frame.map fun x => byteBits x.1 ++ [x.2]).flatten ++ short
    clockedBytes sdi = bytes ∧ frameOfLevels s st sdi = frameRow s st bytes ∧ (sdoInFrame s st sdi).length = sdi.length ∧
    (s.resetHeld = true → ∀ x ∈ sdoInFrame s st sdi, x = none) ∧
    (s.resetHeld = false → bytes.head? ≠ some 0xFF → sdoInFrame s st sdi =
      ((acknowledges s st bytes).map fun a => List.replicate 8 none ++ [some a]).flatten ++
        List.replicate short.length none)) ∧
  (∀ s st (bytes : List Byte), (acknowledges s st bytes).length = (if s.resetHeld = false ∧ bytes.head? = some 0xFF then 1
      else bytes.length) ∧
    (s.resetHeld = true → ∀ x ∈ acknowledges s st bytes, x = true) ∧
    (s.resetHeld = false → bytes.head? = some 0xFF → acknowledges s st bytes = [false])) ∧
  (∀ s st (code : Byte) rest, s.resetHeld = false → code ≠ 0xFF → (linkOf s st).answer ≠ .empty →
    (∀ x ∈ acknowledges s st (code :: rest), x = true) ∧ frameRow s st (code :: rest) = .overrun st) ∧
  (∀ s st, s.resetHeld = false → (linkOf s st).answer = .empty →
    frameRow s st [] = .shortFrame st false ∧ ∀ (code : Byte), code ≠ 0xFF →
      (acknowledges s st [code] = [false] ∧ frameRow s st [code] = .shortFrame st true) ∧
      ∀ (n : Byte) payload,
        (40 < n.toNat → acknowledges s st (code :: n :: payload) = false :: List.replicate (payload.length + 1) true ∧
          frameRow s st (code :: n :: payload) = .frameBadLength st) ∧
        (n.toNat ≤ 40 → acknowledges s st (code :: n :: payload) =
            List.replicate (2 + min n.toNat payload.length) false ++ List.replicate (payload.length - n.toNat) true) ∧
        (payload.length < n.toNat → n.toNat ≤ 40 → frameRow s st (code :: n :: payload) = .shortFrame st true) ∧
        ∀ extra, n.toNat = payload.length → n.toNat ≤ 40 →
          (∀ k, k.code = code → requestOf (frameRow s st (code :: n :: payload ++ extra)) = some (k, st, payload)) ∧
          ((∀ k : ReqKind, k.code ≠ code) →
            frameRow s st (code :: n :: payload ++ extra) = .unknownRequest st code payload)) ∧
  (∀ c st s, ((∃ k p, requestOf c = some (k, st, p)) ∨ c = .overrun st) → s.resetHeld = false → (linkOf s st).answer ≠ .empty →
    ∃ t, Machine.exec c s = .next t ∧ linkOf t st = { linkOf s st with overruns := min 255 ((linkOf s st).overruns + 1) } ∧
      (∀ st', st' ≠ st → linkOf t st' = linkOf s st') ∧ t.notices = (raiseTo st .linkError [2] s).notices ∧
      Frame [.links, .notices] s t) ∧
  ∀ st s, s.resetHeld = false → (linkOf s st).answer = .empty →
    (∃ t, Machine.exec (.frameBadLength st) s = .next t ∧ linkOf t st = { linkOf s st with receive := none } ∧
      (∀ st', st' ≠ st → linkOf t st' = linkOf s st') ∧ t.notices = (raiseTo st .linkError [1] s).notices ∧
      Frame [.links, .notices] s t) ∧
    (∀ code, ∃ t, Machine.exec (.shortFrame st code) s = .next t ∧ linkOf t st = { linkOf s st with receive := none } ∧
      (∀ st', st' ≠ st → linkOf t st' = linkOf s st') ∧
      t.notices = (if code = true then raiseTo st .linkError [0] s else s).notices ∧ Frame [.links, .notices] s t) ∧
    ∀ (code : Byte) p, p.length ≤ 40 →
      (code = 0 ∨ code = 0x1E ∨ code = 0x1F ∨ (0x2B ≤ code.toNat ∧ code.toNat ≤ 0x2F) ∨
        (0x36 ≤ code.toNat ∧ code.toNat ≤ 0x3D) ∨ (0x3F ≤ code.toNat ∧ code.toNat ≤ 0xFE)) →
      s.links.occupied = false → ∃ t, Machine.exec (.unknownRequest st code p) s = .next t ∧ Refused st .badRequest s t

/-- A complete request frame that ends with the answer buffer EMPTY brings its request into the receive buffer; the answer buffer
is BUSY until the request has been taken, and then holds its answer (R193, R195). A part at work leaves it BUSY at the frame's
end, whatever the request, one whose code names none included, and nothing else changes; a part that is not takes it at once.
That the field `occupied` tells the two apart is the model's (notes/assumptions/1.md). A request outside the lists of R197 for
its station is answered NOT PERMITTED, one whose payload is not of its form BAD REQUEST (R197, R203), whatever its values by the
model's reading (notes/assumptions/46.md; a payload where none belongs: 26.md); neither changes anything else. Every request
that is taken leaves an answer in the buffer of its own link, its receive buffer empty, never with the statuses PENDING and
EMPTY, which belong to the ANSWER frame alone; the other links are untouched (R195, R196). -/
def Obligations.RequestsAreAnsweredOnTheirLink : Prop :=
  (∀ c (code : Byte) st p s,
    ((∃ k, requestOf c = some (k, st, p) ∧ code = k.code) ∨
      c = .unknownRequest st code p ∧ code ≠ 0xFF ∧ ∀ k : ReqKind, k.code ≠ code) →
    s.resetHeld = false → (linkOf s st).answer = .empty → p.length ≤ 40 → s.links.occupied = true →
    ∃ t, Machine.exec c s = .next t ∧ linkOf t st = { linkOf s st with receive := some ⟨code, p⟩, answer := .busy } ∧
      t.links.occupied = true ∧ (∀ st', st' ≠ st → linkOf t st' = linkOf s st') ∧ Frame [.links] s t) ∧
  (∀ c k st p s, requestOf c = some (k, st, p) → s.resetHeld = false → (linkOf s st).answer = .empty → p.length ≤ 40 →
    s.links.occupied = false →
    (st = .keyboard ∧ k ∈ [ReqKind.fetchOrder, .orderDone, .wheelReport, .text, .holdLines, .releaseLines, .readDiverted] ∨
      st = .interface ∧ k ∉ [ReqKind.text, .holdLines, .releaseLines, .readDiverted, .showMessage, .clearMessage, .get,
        .readStatus, .readLine, .readNextOrder, .takeNotice] ∨
      st = .mechanism ∧ k ∉ [ReqKind.fetchOrder, .orderDone, .wheelReport, .get, .readStatus, .readNextOrder, .takeNotice]) →
    ∃ t, Machine.exec c s = .next t ∧ Refused st .notPermitted s t) ∧
  (∀ k st p s, Ready k st p s → malformed k p = true →
    ∃ t, Machine.exec (rowOfCode st k.code p) s = .next t ∧ Refused st .badRequest s t) ∧
  ∀ c k st p s, requestOf c = some (k, st, p) → s.resetHeld = false → (linkOf s st).answer = .empty → p.length ≤ 40 →
    s.links.occupied = false →
    ∃ t a, Machine.exec c s = .next t ∧ (linkOf t st).answer = .held a ∧ (linkOf t st).receive = none ∧
      a.status ≠ .pending ∧ a.status ≠ .empty ∧ ∀ st', st' ≠ st → linkOf t st' = linkOf s st'

/-- What an ANSWER frame returns, status, length and payload, as many bytes as the station clocks, and what it leaves in the
answer buffer, in each of its states (R196, R203); each byte sent stands on SDO most significant bit first, the ninth pulse being
the station's; SDO is driven with data in no other frame, and not while RESET is held low (R192, R202). That nothing is sent past
the answer's end, and that a frame is read to its end when as many bytes were clocked, is the model's reading
(notes/assumptions/47.md); that the link's record sdo holds the whole answer, whether or not the frame read it to its end, is the
model's choice (6.md). -/
def Obligations.AnswerFrameReturnsTheBuffer : Prop :=
  ∀ st toEnd s, s.resetHeld = false → ∃ t, Machine.exec (.answer st toEnd) s = .next t ∧ Frame [.links] s t ∧
    (∀ st', st' ≠ st → linkOf t st' = linkOf s st') ∧
    (∀ a, (linkOf s st).answer = .held a →
      linkOf t st = { linkOf s st with
        sdo := [byte a.status.number, byte a.payload.length] ++ a.payload
        answer := if toEnd = true then .empty else .held a } ∧
      ∀ clocked : List Byte, sentInFrame s st (0xFF :: clocked) =
          ([byte a.status.number, byte a.payload.length] ++ a.payload).take clocked.length ∧
        frameRow s st (0xFF :: clocked) = .answer st (decide (a.payload.length + 2 ≤ clocked.length))) ∧
    ((linkOf s st).answer = .busy → linkOf t st = { linkOf s st with sdo := [10, 0] }) ∧
    ((linkOf s st).answer = .empty → linkOf t st = { linkOf s st with sdo := [11, 0] }) ∧
    (∀ (code : Byte) rest, code ≠ 0xFF → sentInFrame s st (code :: rest) = []) ∧
    (∀ (clocked : List Byte) (acks : List Bool), acks.length = clocked.length + 1 →
      let sent := sentInFrame s st (0xFF :: clocked)
      sdoInFrame s st (List.zipWith (fun b a => byteBits b ++ [a]) (0xFF :: clocked) acks).flatten =
        List.replicate 8 none ++ [some false] ++ (sent.map fun b => (byteBits b).map some ++ [none]).flatten ++
          List.replicate (9 * (clocked.length - sent.length)) none) ∧
    ∀ bytes, sentInFrame { s with resetHeld := true } st bytes = []

/-! ## Notices -/

/-- A raise goes to every station of the kind's route, and one of a direct kind to its named station; the station's record of the
kind has its count raised by one, stopping at 15, and its detail replaced, or is added with count 1; no other record, station
or block changes (R199). -/
def Obligations.RaiseFollowsTheRoute : Prop :=
  (∀ k d s st, (st = .keyboard ∧ (routeOf s k).keyboard = true ∨ st = .mechanism ∧ (routeOf s k).mechanism = true ∨
      st = .interface ∧ (routeOf s k).interface = true → boardOf (raise k d s) st = boardOf (raiseTo st k d s) st) ∧
    (¬ (st = .keyboard ∧ (routeOf s k).keyboard = true ∨ st = .mechanism ∧ (routeOf s k).mechanism = true ∨
      st = .interface ∧ (routeOf s k).interface = true) → boardOf (raise k d s) st = boardOf s st) ∧
    (raise k d s).notices.routes = s.notices.routes ∧ { raise k d s with notices := s.notices } = s) ∧
  ∀ k d s st, BoardOk (boardOf s st) →
    (∀ n ∈ (boardOf s st).pending, n.kind = k → ⟨k, min 15 (n.count + 1), d⟩ ∈ (boardOf (raiseTo st k d s) st).pending) ∧
    ((∀ n ∈ (boardOf s st).pending, n.kind ≠ k) → ⟨k, 1, d⟩ ∈ (boardOf (raiseTo st k d s) st).pending) ∧
    ((boardOf (raiseTo st k d s) st).pending.filter (·.kind ≠ k) = (boardOf s st).pending.filter (·.kind ≠ k)) ∧
    BoardOk (boardOf (raiseTo st k d s) st) ∧ (boardOf (raiseTo st k d s) st).current = (boardOf s st).current ∧
    (∀ st', st' ≠ st → boardOf (raiseTo st k d s) st' = boardOf s st') ∧ { raiseTo st k d s with notices := s.notices } = s

/-- TAKE_NOTICE (R200): with an empty map the current notice becomes NONE and the answer is NONE; otherwise the record with the
highest bid, priority at the station times 16 plus count, the lower kind number between equal bids, leaves the map, becomes
the current notice and is the answer. READ_NOTICE returns the current notice as it was frozen, or NONE, and changes nothing.
Neither carries a payload; that one is answered BAD REQUEST is read from R197 (notes/assumptions/26.md). -/
def Obligations.TakingAndReadingNotices : Prop :=
  (∀ st s, Ready .takeNotice st [] s →
    ((boardOf s st).pending = [] → ∃ t, Machine.exec (.takeNotice st []) s = .next t ∧ Answered st ⟨.none_, []⟩ s t ∧
      boardOf t st = ⟨[], none⟩ ∧ (∀ st', st' ≠ st → boardOf t st' = boardOf s st') ∧ t.notices.routes = s.notices.routes ∧
      Frame [.links, .notices] s t) ∧
    ((boardOf s st).pending ≠ [] → ∃ t n, Machine.exec (.takeNotice st []) s = .next t ∧ n ∈ (boardOf s st).pending ∧
      (∀ m ∈ (boardOf s st).pending, m.kind ≠ n.kind →
        priorityAt s st m.kind * 16 + m.count < priorityAt s st n.kind * 16 + n.count ∨
        priorityAt s st m.kind * 16 + m.count = priorityAt s st n.kind * 16 + n.count ∧ n.kind.number < m.kind.number) ∧
      Answered st ⟨.ok, [byte n.kind.number, byte n.count, byte n.detail.length] ++ n.detail⟩ s t ∧
      boardOf t st = ⟨(boardOf s st).pending.filter (·.kind ≠ n.kind), some n⟩ ∧
      (∀ st', st' ≠ st → boardOf t st' = boardOf s st') ∧ t.notices.routes = s.notices.routes ∧ Frame [.links, .notices] s t)) ∧
  (∀ st s, Ready .readNotice st [] s →
    (∀ n, (boardOf s st).current = some n → ∃ t, Machine.exec (.readNotice st []) s = .next t ∧
      Yields st ⟨.ok, [byte n.kind.number, byte n.count, byte n.detail.length] ++ n.detail⟩ s s t) ∧
    ((boardOf s st).current = none → ∃ t, Machine.exec (.readNotice st []) s = .next t ∧ Refused st .none_ s t)) ∧
  ∀ st p s, p ≠ [] → (Ready .readNotice st p s → ∃ t, Machine.exec (.readNotice st p) s = .next t ∧ Refused st .badRequest s t) ∧
    (Ready .takeNotice st p s → ∃ t, Machine.exec (.takeNotice st p) s = .next t ∧ Refused st .badRequest s t)

/-- SET_NOTICE_ROUTE (R201): the checks, then the fields present are written for the kind, priorities above 15 brought to 15;
records in the maps stay. The form, an empty payload included (notes/assumptions/26.md), is checked before the kind
(notes/assumptions/46.md); bits of a route byte above the three stations are ignored (notes/assumptions/25.md). -/
def Obligations.SetNoticeRouteWritesTheKind : Prop :=
  (∀ st s, Ready .setNoticeRoute st [] s → ∃ t, Machine.exec (.setNoticeRoute st []) s = .next t ∧ Refused st .badRequest s t) ∧
  ∀ st kind rest s, Ready .setNoticeRoute st (kind :: rest) s → s.notices.routes.length = 17 →
    (settingFields [1, 3] rest = none →
      ∃ t, Machine.exec (.setNoticeRoute st (kind :: rest)) s = .next t ∧ Refused st .badRequest s t) ∧
    ∀ fs, settingFields [1, 3] rest = some fs →
      (kind.toNat = 0 ∨ 17 < kind.toNat ∨ kind.toNat ∈ [6, 9, 10, 11, 15] ∧ (field fs 0).isSome = true →
        ∃ t, Machine.exec (.setNoticeRoute st (kind :: rest)) s = .next t ∧ Refused st .badValue s t) ∧
      (1 ≤ kind.toNat → kind.toNat ≤ 17 → (kind.toNat ∈ [6, 9, 10, 11, 15] → field fs 0 = none) →
        ∃ t r r' status, Machine.exec (.setNoticeRoute st (kind :: rest)) s = .next t ∧ Answered st ⟨status, []⟩ s t ∧
          s.notices.routes[kind.toNat - 1]? = some r ∧ t.notices = { s.notices with routes := s.notices.routes.set (kind.toNat - 1) r' } ∧
          (field fs 0 = none → r'.keyboard = r.keyboard ∧ r'.mechanism = r.mechanism ∧ r'.interface = r.interface) ∧
          (∀ b, field fs 0 = some b → r'.keyboard = b.testBit 0 ∧ r'.mechanism = b.testBit 1 ∧ r'.interface = b.testBit 2) ∧
          (field fs 1 = none → r'.kbPriority = r.kbPriority ∧ r'.mechPriority = r.mechPriority ∧ r'.ifPriority = r.ifPriority ∧
            status = .ok) ∧
          (∀ a b c : Byte, field fs 1 = some (num [a, b, c]) → r'.kbPriority = min 15 a.toNat ∧
            r'.mechPriority = min 15 b.toNat ∧ r'.ifPriority = min 15 c.toNat ∧
            status = if 15 < a.toNat ∨ 15 < b.toNat ∨ 15 < c.toNat then .clamped else .ok) ∧
          Frame [.links, .notices] s t)

/-! ## Streams and the line holder -/

/-- KEYS and TEXT (R41): the codes are examined in order; inadmissible ones are dropped, admissible ones appended while there is
a place; examination stops at the first admissible code without one. The answer counts the consumed and the dropped; dropped
codes raise REFUSED CHARACTERS once, with reason INTAKE, to the sending station; an append to the interface stream that
leaves less free space than the threshold sets the room-low flag (R56). The reason's number is notes/assumptions/28.md. -/
def Obligations.KeysAndTextIntake : Prop :=
  (∀ st payload s, Ready .keys st payload s → s.streams.typeAhead.length ≤ 64 → ∃ t k,
    Machine.exec (.keys st payload) s = .next t ∧ k ≤ payload.length ∧
    (let new := (payload.take k).filter (admissible .keyboard ·)
     let dropped := ((payload.take k).filter (!admissible .keyboard ·)).length
     t.streams = { s.streams with typeAhead := s.streams.typeAhead ++ new } ∧ t.streams.typeAhead.length ≤ 64 ∧
     (k < payload.length → t.streams.typeAhead.length = 64 ∧ ∃ c, payload[k]? = some c ∧ admissible .keyboard c = true) ∧
     Answered st ⟨if k = payload.length then .ok else if k = 0 then .full else .partial_, [byte k, byte dropped]⟩ s t ∧
     t.notices = (if dropped = 0 then s else raiseTo .keyboard .refusedCharacters [0, byte dropped] s).notices ∧
     Frame [.links, .streams, .notices] s t)) ∧
  ∀ st payload s, Ready .text st payload s → s.streams.interfaceQ.length ≤ 256 → ∃ t k,
    Machine.exec (.text st payload) s = .next t ∧ k ≤ payload.length ∧
    (let new := (payload.take k).filter (admissible .interface ·)
     let dropped := ((payload.take k).filter (!admissible .interface ·)).length
     t.streams = { s.streams with
       interfaceQ := s.streams.interfaceQ ++ new
       roomLow := if new ≠ [] ∧ 256 - (s.streams.interfaceQ ++ new).length < s.streams.roomThreshold then true
         else s.streams.roomLow } ∧
     t.streams.interfaceQ.length ≤ 256 ∧
     (k < payload.length → t.streams.interfaceQ.length = 256 ∧ ∃ c, payload[k]? = some c ∧ admissible .interface c = true) ∧
     Answered st ⟨if k = payload.length then .ok else if k = 0 then .full else .partial_, [byte k, byte dropped]⟩ s t ∧
     t.notices = (if dropped = 0 then s else raiseTo .interface .refusedCharacters [0, byte dropped] s).notices ∧
     Frame [.links, .streams, .notices] s t)

/-- HOLD_LINES, row by row of the table of R51; that a payload is refused is read from R197 (notes/assumptions/26.md), and that a
line without cells keeps its layout when its holder changes is the model's reading (51.md). -/
def Obligations.HoldLinesTable : Prop :=
  ∀ st payload s, Ready .holdLines st payload s →
    (payload ≠ [] → ∃ t, Machine.exec (.holdLines st payload) s = .next t ∧ Refused st .badRequest s t) ∧
    (payload = [] →
      (s.streams.holder = some .interface → s.streams.takeover = true → s.streams.pageHold ≠ .waiting →
        ∃ t, Machine.exec (.holdLines st []) s = .next t ∧ Refused st .notNow s t) ∧
      (s.streams.holder = some .interface → s.streams.takeover = false → s.streams.pageHold ≠ .waiting →
        ∃ t, Machine.exec (.holdLines st []) s = .next t ∧ Yields st ⟨.ok, []⟩ { s with streams := { s.streams with
          pageHold := .on, lapsePending := false, lapseTimer := some s.streams.lapseTime } } s t) ∧
      (s.streams.holder = none → s.streams.pageHold = .off → s.lines.current.cells = [] →
        ∃ t, Machine.exec (.holdLines st []) s = .next t ∧ Yields st ⟨.ok, []⟩ { s with
          streams := { s.streams with
            holder := some .interface, pageHold := .on, lapsePending := false, lapseTimer := some s.streams.lapseTime }
          lines := { s.lines with current := { s.lines.current with composition := some s.settings.ifMode } }
          composer := if s.settings.ifMode = .line then { s.composer with cursor := 0, p := s.lines.current.snapshot }
            else s.composer } s t) ∧
      (s.streams.holder = some .keyboard → s.streams.pageHold = .off →
        ∃ t, Machine.exec (.holdLines st []) s = .next t ∧
          Yields st ⟨.ok, []⟩ { s with streams := { s.streams with pageHold := .waiting } } s t) ∧
      (s.streams.holder = some .keyboard → s.streams.pageHold = .waiting →
        ∃ t, Machine.exec (.holdLines st []) s = .next t ∧ Yields st ⟨.ok, []⟩ s s t))

/-- The ends of page hold: RELEASE_LINES, answered OK in each of its states (R52); TAKE_LINE (R55); the expiry of the hold lapse
timer (R54): what each does on a line with cells and on one without. A second TAKE_LINE on a line that has lost its cells hands
it over at once (notes/assumptions/43.md); an expiry while the timer is stopped leaves the state (notes/assumptions/2.md).
HOLD_LINES and RELEASE_LINES apart, the hold ends at a hold end, by the table of R46, row by row: to whom the line passes, what
becomes of page hold, takeover and timer, and the composition of the line (R62), whose layout stays by the model's reading
(51.md). -/
def Obligations.PageHoldEnds : Prop :=
  (∀ s, s.streams.holder ≠ none →
    let t := holdEnd s
    let lapses := s.streams.holder = some .interface ∧ s.streams.takeover = false ∧ s.streams.pageHold = .on ∧
      s.streams.lapsePending = true
    (s.streams.holder = some .keyboard → s.streams.pageHold = .waiting → t.streams = { s.streams with
      holder := some .interface, pageHold := .on, lapseTimer := some s.streams.lapseTime }) ∧
    (s.streams.holder = some .keyboard → s.streams.pageHold = .off → t.streams = { s.streams with holder := none }) ∧
    (s.streams.holder = some .interface → s.streams.takeover = true → t.streams = { s.streams with
      holder := some .keyboard, takeover := false }) ∧
    (s.streams.holder = some .interface → s.streams.takeover = false → s.streams.pageHold = .on →
      s.streams.lapsePending = false → t.streams = s.streams) ∧
    (lapses → t.streams = { s.streams with holder := none, pageHold := .off, lapsePending := false } ∧
      t.notices = (raise .holdLapsed [1] s).notices) ∧ (¬ lapses → t.notices = s.notices) ∧
    (s.streams.holder = some .interface → s.streams.takeover = false → s.streams.pageHold = .off →
      t.streams = { s.streams with holder := none }) ∧
    (t.streams.holder = none →
      t.lines = { s.lines with current := { s.lines.current with composition := none } } ∧ t.composer = s.composer) ∧
    (∀ h, t.streams.holder = some h → s.lines.current.cells ≠ [] → t.lines = s.lines ∧ t.composer = s.composer) ∧
    (∀ h, t.streams.holder = some h → s.lines.current.cells = [] →
      t.lines = { s.lines with current := { s.lines.current with composition := some (modeOf s h) } } ∧
      t.composer = if modeOf s h = .line then { s.composer with cursor := 0, p := s.lines.current.snapshot }
        else s.composer) ∧
    Frame [.streams, .lines, .composer, .notices] s t) ∧
  (∀ st s, Ready .releaseLines st [] s →
    (s.streams.pageHold = .off → ∃ t, Machine.exec (.releaseLines st []) s = .next t ∧ Yields st ⟨.ok, []⟩ s s t) ∧
    (s.streams.pageHold = .waiting → ∃ t, Machine.exec (.releaseLines st []) s = .next t ∧
      Yields st ⟨.ok, []⟩ { s with streams := { s.streams with pageHold := .off } } s t) ∧
    (s.streams.pageHold = .on → s.lines.current.cells ≠ [] → ∃ t, Machine.exec (.releaseLines st []) s = .next t ∧
      Yields st ⟨.ok, []⟩ { s with streams := { s.streams with
        pageHold := .off, lapsePending := false, lapseTimer := none } } s t) ∧
    (s.streams.pageHold = .on → s.lines.current.cells = [] → ∃ t, Machine.exec (.releaseLines st []) s = .next t ∧
      Yields st ⟨.ok, []⟩ { s with
        streams := { s.streams with pageHold := .off, lapsePending := false, lapseTimer := none, holder := none }
        lines := { s.lines with current := { s.lines.current with composition := none } } } s t)) ∧
  (∀ st s, Ready .takeLine st [] s →
    (s.streams.holder ≠ some .interface → ∃ t, Machine.exec (.takeLine st []) s = .next t ∧ Refused st .notNow s t) ∧
    (s.streams.holder = some .interface → s.lines.current.cells ≠ [] → ∃ t, Machine.exec (.takeLine st []) s = .next t ∧
      Yields st ⟨.ok, []⟩ { s with streams := { s.streams with
        pageHold := .off, lapsePending := false, lapseTimer := none, takeover := true } } s t) ∧
    (s.streams.holder = some .interface → s.lines.current.cells = [] → ∃ t, Machine.exec (.takeLine st []) s = .next t ∧
      Yields st ⟨.ok, []⟩ { s with
        streams := { s.streams with
          pageHold := .off, lapsePending := false, lapseTimer := none, takeover := false, holder := some .keyboard }
        lines := { s.lines with current := { s.lines.current with composition := some s.settings.kbMode } }
        composer := if s.settings.kbMode = .line then { s.composer with cursor := 0, p := s.lines.current.snapshot }
          else s.composer } s t)) ∧
  ∀ s, s.resetHeld = false →
    (s.streams.lapseTimer = none → ∃ t, Machine.exec .holdLapseExpiry s = .next t ∧ Becomes s t) ∧
    (s.streams.lapseTimer ≠ none → s.lines.current.cells ≠ [] → ∃ t, Machine.exec .holdLapseExpiry s = .next t ∧
      Becomes { s with streams := { s.streams with lapsePending := true, lapseTimer := none } } t) ∧
    (s.streams.lapseTimer ≠ none → s.lines.current.cells = [] → ∃ t, Machine.exec .holdLapseExpiry s = .next t ∧
      Becomes (raise .holdLapsed [0] { s with
        streams := { s.streams with pageHold := .off, lapseTimer := none, holder := none }
        lines := { s.lines with current := { s.lines.current with composition := none } } }) t)

/-- READ_DIVERTED (R50): a count of 0 or above 32 is refused, an empty queue is answered NONE; otherwise the lesser of the count
and the number held leave the head of the divert queue, and are the answer in queue order. -/
def Obligations.ReadDivertedTakesFromTheHead : Prop :=
  ∀ st (n : Byte) s, Ready .readDiverted st [n] s →
    (n.toNat = 0 ∨ 32 < n.toNat → ∃ t, Machine.exec (.readDiverted st [n]) s = .next t ∧ Refused st .badValue s t) ∧
    (1 ≤ n.toNat → n.toNat ≤ 32 → s.streams.divertQ = [] →
      ∃ t, Machine.exec (.readDiverted st [n]) s = .next t ∧ Refused st .none_ s t) ∧
    (1 ≤ n.toNat → n.toNat ≤ 32 → s.streams.divertQ ≠ [] → ∃ t codes rest,
      Machine.exec (.readDiverted st [n]) s = .next t ∧ s.streams.divertQ = codes ++ rest ∧
      codes.length = min n.toNat s.streams.divertQ.length ∧
      Yields st ⟨.ok, codes⟩ { s with streams := { s.streams with divertQ := rest } } s t)

/-- SET_STREAMS (R57): checked whole; a lapse time outside 1 to 60 s is brought to the nearer end and makes the answer CLAMPED;
a written threshold sets or clears the room-low flag by the free space, without a notice (R56). -/
def Obligations.SetStreamsWritesTheFields : Prop :=
  ∀ st payload s, Ready .setStreams st payload s →
    ∀ fs, settingFields [1, 1, 2, 1] payload = some fs →
      (¬ (atMost fs 0 2 ∧ atMost fs 1 1 ∧ ∀ v, field fs 3 = some v → v ∈ [32, 64, 128, 192]) →
        ∃ t, Machine.exec (.setStreams st payload) s = .next t ∧ Refused st .badValue s t) ∧
      (atMost fs 0 2 → atMost fs 1 1 → (∀ v, field fs 3 = some v → v ∈ [32, 64, 128, 192]) →
        ∃ t status, Machine.exec (.setStreams st payload) s = .next t ∧ Answered st ⟨status, []⟩ s t ∧
          (status = .clamped ∧ exceeds fs 2 1 60 ∨ status = .ok ∧ ¬ exceeds fs 2 1 60) ∧
          t.streams.kbPolicy.number = written fs 0 s.streams.kbPolicy.number ∧
          t.streams.ifPolicy.number = written fs 1 s.streams.ifPolicy.number ∧
          t.streams = { s.streams with
            kbPolicy := t.streams.kbPolicy, ifPolicy := t.streams.ifPolicy
            lapseTime := writtenIn fs 2 1 60 s.streams.lapseTime
            roomThreshold := written fs 3 s.streams.roomThreshold
            roomLow := if (field fs 3).isSome = true
              then decide (256 - s.streams.interfaceQ.length < written fs 3 s.streams.roomThreshold) else s.streams.roomLow } ∧
          Frame [.links, .streams] s t)

/-- NOT_HOLDER_DROP (R48): under the REFUSE policy the head of a stream whose line the other source holds is dropped, with REFUSED
CHARACTERS, reason NOT HOLDER and count 1; a place freed in the interface stream that brings the free space back to the
threshold clears the room-low flag and raises STREAM ROOM (R56). DIVERT_KEY (R49): the head of the type-ahead queue is moved
to the tail of the divert queue, with DIVERTED KEYS, or, when 16 codes are held, dropped, with reason DIVERT FULL. A drop or a
move whose conditions do not hold leaves the state (notes/assumptions/2.md); the reasons' numbers are notes/assumptions/28.md. -/
def Obligations.NonHolderPolicies : Prop :=
  (∀ s, s.resetHeld = false →
    (∀ c rest, s.streams.typeAhead = c :: rest → s.streams.holder = some .interface → s.streams.kbPolicy = .refuse →
      ∃ t, Machine.exec (.notHolderDrop .keyboard) s = .next t ∧
        Becomes (raiseTo .keyboard .refusedCharacters [1, 1] { s with streams := { s.streams with typeAhead := rest } }) t) ∧
    (∀ c rest, s.streams.interfaceQ = c :: rest → s.streams.holder = some .keyboard → s.streams.ifPolicy = .refuse →
      ∃ t, Machine.exec (.notHolderDrop .interface) s = .next t ∧
        (if s.streams.roomLow = true ∧ s.streams.roomThreshold ≤ 256 - rest.length then
          Becomes (raiseTo .interface .refusedCharacters [1, 1] (raiseTo .interface .streamRoom
            [byte ((256 - rest.length) / 16)] { s with streams := { s.streams with interfaceQ := rest, roomLow := false } })) t
        else Becomes (raiseTo .interface .refusedCharacters [1, 1]
          { s with streams := { s.streams with interfaceQ := rest } }) t)) ∧
    ((s.streams.typeAhead = [] ∨ s.streams.holder ≠ some .interface ∨ s.streams.kbPolicy ≠ .refuse) →
      ∃ t, Machine.exec (.notHolderDrop .keyboard) s = .next t ∧ Becomes s t) ∧
    ((s.streams.interfaceQ = [] ∨ s.streams.holder ≠ some .keyboard ∨ s.streams.ifPolicy ≠ .refuse) →
      ∃ t, Machine.exec (.notHolderDrop .interface) s = .next t ∧ Becomes s t)) ∧
  ∀ s, s.resetHeld = false →
    (∀ c rest, s.streams.typeAhead = c :: rest → s.streams.holder = some .interface → s.streams.kbPolicy = .divert →
      (s.streams.divertQ.length < 16 → ∃ t, Machine.exec .divertKey s = .next t ∧
        Becomes (raiseTo .interface .divertedKeys [byte (s.streams.divertQ.length + 1)] { s with streams := { s.streams with
          typeAhead := rest, divertQ := s.streams.divertQ ++ [c] } }) t) ∧
      (16 ≤ s.streams.divertQ.length → ∃ t, Machine.exec .divertKey s = .next t ∧
        Becomes (raiseTo .keyboard .refusedCharacters [2, 1] { s with streams := { s.streams with typeAhead := rest } }) t)) ∧
    (s.streams.typeAhead = [] ∨ s.streams.holder ≠ some .interface ∨ s.streams.kbPolicy ≠ .divert →
      ∃ t, Machine.exec .divertKey s = .next t ∧ Becomes s t)

/-- The composer's taking of a head (R43, R44, R53, R56, R62): it leaves its queue, the other two queues and the stream settings
staying as they are; a line without a holder is claimed, and empty takes the source's mode; an entry of INTERFACE starts the hold
lapse timer again while page hold is ON and no lapse is pending; free space that has come back to the threshold while the room-low
flag stands clears the flag and raises STREAM ROOM. That the claimed line keeps its layout is the model's reading
(notes/assumptions/51.md). A stream row leaves the state when its queue is empty, when another code is at the head, when the other
source holds the line, and when nobody holds a line that has cells (R43, R44, R47; that it then does nothing is
notes/assumptions/2.md). At an admitted head it waits while an order of a correction has no place (R65, R135) or a line release is
in progress (R65, R82); what such a head does without being taken stays: a function that flushes closes the open group of a WORD
line with held cells, unless a capture is not made (R73), and a RETURN captures the runs of a LINE line (R145), as
ReturnEndsTheLine has it (notes/assumptions/22.md). -/
def Obligations.TakingAHead : Prop :=
  (∀ src code s, Admits src code s → ∃ rest,
    let room := src = .interface ∧ s.streams.roomLow = true ∧ s.streams.roomThreshold ≤ 256 - rest.length
    queueOf s src = code :: rest ∧
    (takeHead src s).streams = { s.streams with
      typeAhead := if src = .keyboard then rest else s.streams.typeAhead
      interfaceQ := if src = .interface then rest else s.streams.interfaceQ
      holder := some src
      lapseTimer := if src = .interface ∧ s.streams.pageHold = .on ∧ s.streams.lapsePending = false
        then some s.streams.lapseTime else s.streams.lapseTimer
      roomLow := if room then false else s.streams.roomLow } ∧
    (takeHead src s).notices =
      (if room then raiseTo .interface .streamRoom [byte ((256 - rest.length) / 16)] s else s).notices ∧
    (s.streams.holder = some src → (takeHead src s).lines = s.lines ∧ (takeHead src s).composer = s.composer) ∧
    (s.streams.holder = none →
      (takeHead src s).lines = { s.lines with current := { s.lines.current with composition := some (modeOf s src) } } ∧
      (takeHead src s).composer = if modeOf s src = .line then { s.composer with cursor := 0, p := s.lines.current.snapshot }
        else s.composer) ∧
    Frame [.streams, .lines, .composer, .notices] s (takeHead src s)) ∧
  ∀ i src codes s, streamRow i = some (src, codes) → s.resetHeld = false →
    let head := (queueOf s src).head?
    let leaves := fun v : State => ∃ t, Machine.exec i s = .next t ∧ Becomes v t
    (head = none → leaves s) ∧
    (∀ c, head = some c → codes c = false → leaves s) ∧
    (∀ h, s.streams.holder = some h → h ≠ src → leaves s) ∧
    (s.streams.holder = none → s.lines.current.cells ≠ [] → leaves s) ∧
    ∀ c, head = some c → codes c = true → s.streams.holder = some src ∨ s.streams.holder = none ∧ s.lines.current.cells = [] →
      s.correction.held ≠ [] ∨ s.composer.release ≠ none →
      let m := compositionFor s src
      let flushes := m = .word ∧ c ∈ flushCodes ∧ ∃ d ∈ s.lines.current.cells, d.isHeld = true
      (flushes → s.composer.openGroup = [] ∨ endWord .word s = none → leaves s) ∧
      (flushes → s.composer.openGroup ≠ [] → ∀ w, endWord .word s = some w → leaves { w with composer := { w.composer with
        openGroup := [], closedGroups := s.composer.closedGroups ++ [s.composer.openGroup] } }) ∧
      (m = .line → c = 0x0D → leaves (captureLine s)) ∧
      (¬ flushes → ¬ (m = .line ∧ c = 0x0D) → leaves s)

/-! ## Settings, tab stops and class table -/

/-- The payload of a setting request says its fields back (R203): two bytes of presence, then the present fields, each in the size
of its row, most significant byte first; and only such payloads are taken. GET gives a setting in that layout with every field
present (R198): sent back as it was answered, it is taken as OK and leaves the settings as they were. -/
def Obligations.SettingsReadBackAsTheyAreWritten : Prop :=
  (∀ (sizes : List Nat) (fs : List (Option Nat)), fs.length = sizes.length → sizes.length ≤ 16 →
    (∀ i k v : Nat, sizes[i]? = some k → fs[i]? = some (some v) → v < 256 ^ k) →
    settingFields sizes (settingPayload sizes fs) = some fs ∧
    ∀ payload, settingFields sizes payload = some fs → payload = settingPayload sizes fs) ∧
  (∀ s, SettingsOk s.settings →
    (setCompositionRequest (compositionItem s.settings) s).2 = ⟨.ok, []⟩ ∧
    (setCompositionRequest (compositionItem s.settings) s).1.settings = s.settings) ∧
  (∀ s, StreamsOk s.streams → (setStreams (streamsItem s.streams) s).2 = ⟨.ok, []⟩ ∧
    (setStreams (streamsItem s.streams) s).1 = { s with streams := { s.streams with
      roomLow := decide (256 - s.streams.interfaceQ.length < s.streams.roomThreshold) } }) ∧
  (∀ s, EnergyOk s.energy → (setEnergy (energyItem s.energy) s).2 = ⟨.ok, []⟩ ∧
    (setEnergy (energyItem s.energy) s).1.energy = s.energy) ∧
  (∀ s, 8 ≤ s.spelling.device → s.spelling.device ≤ 0x77 → (setSpelling (spellingItem s.spelling) s).2 = ⟨.ok, []⟩ ∧
    ((setSpelling (spellingItem s.spelling) s).1.spelling.kbUnknown = s.spelling.kbUnknown ∧
     (setSpelling (spellingItem s.spelling) s).1.spelling.ifUnknown = s.spelling.ifUnknown ∧
     (setSpelling (spellingItem s.spelling) s).1.spelling.enable = s.spelling.enable ∧
     (setSpelling (spellingItem s.spelling) s).1.spelling.rate = s.spelling.rate ∧
     (setSpelling (spellingItem s.spelling) s).1.spelling.device = s.spelling.device)) ∧
  (∀ s, 2 ≤ s.signals.filterTime → s.signals.filterTime ≤ 30 → 10 ≤ s.signals.tone → s.signals.tone ≤ 40 →
    s.signals.lamps.length = 4 → setSignals (signalsItem s.signals) s = (s, ⟨.ok, []⟩)) ∧
  ∀ (n : Byte) r s, s.spelling.skipRules[n.toNat]? = some r → n.toNat ≤ 3 → 1 ≤ r.minLen → r.minLen ≤ r.maxLen → r.maxLen ≤ 24 →
    setSkipRule (skipRuleItem n r) s = (s, ⟨.ok, []⟩)

/-- SET_COMPOSITION (R17, R23, R24, R64): checked whole, the margins as a pair after each is brought into its range; a mode
written for the source that holds a line without cells becomes its composition at once (R62). That a number outside an
enumeration, a pitch setting's too, is BAD VALUE is notes/assumptions/27.md; that the form is checked before the values, 46.md;
that the line keeps its layout, 51.md. -/
def Obligations.SetCompositionWritesTheFields : Prop :=
  ∀ st payload s, Ready .setComposition st payload s →
    (settingFields [1, 1, 1, 1, 1, 2, 2, 1, 1, 1] payload = none →
      ∃ t, Machine.exec (.setComposition st payload) s = .next t ∧ Refused st .badRequest s t) ∧
    ∀ fs, settingFields [1, 1, 1, 1, 1, 2, 2, 1, 1, 1] payload = some fs →
      let left := writtenIn fs 5 0 1439 s.settings.left
      let right := writtenIn fs 6 120 1559 s.settings.right
      let valid := atMost fs 0 2 ∧ atMost fs 1 2 ∧ atMost fs 2 1 ∧ atMost fs 4 3 ∧ atMost fs 9 1 ∧ left + 120 ≤ right
      let clamps := exceeds fs 3 2 6 ∨ exceeds fs 5 0 1439 ∨ exceeds fs 6 120 1559 ∨ exceeds fs 7 0 240 ∨ exceeds fs 8 0 48
      (¬ valid → ∃ t, Machine.exec (.setComposition st payload) s = .next t ∧ Refused st .badValue s t) ∧
      (valid → ∃ t status, Machine.exec (.setComposition st payload) s = .next t ∧ Answered st ⟨status, []⟩ s t ∧
        (status = .clamped ∧ clamps ∨ status = .ok ∧ ¬ clamps) ∧
        t.settings.kbMode.number = written fs 0 s.settings.kbMode.number ∧
        t.settings.ifMode.number = written fs 1 s.settings.ifMode.number ∧
        bit t.settings.autoReturn = written fs 2 (bit s.settings.autoReturn) ∧
        t.settings.lineSpacing = writtenIn fs 3 2 6 s.settings.lineSpacing ∧
        t.settings.pitch.number = written fs 4 s.settings.pitch.number ∧ t.settings.left = left ∧ t.settings.right = right ∧
        t.settings.hotZone = writtenIn fs 7 0 240 s.settings.hotZone ∧ t.settings.xmax = writtenIn fs 8 0 48 s.settings.xmax ∧
        t.settings.layout.number = written fs 9 s.settings.layout.number ∧ t.settings.tabs = s.settings.tabs ∧
        (let acts := s.lines.current.cells = [] ∧ (s.streams.holder = some .keyboard ∧ (field fs 0).isSome = true ∨
            s.streams.holder = some .interface ∧ (field fs 1).isSome = true)
         (acts → ∀ h, s.streams.holder = some h →
           t.lines = { s.lines with current := { s.lines.current with composition := some (modeOf t h) } } ∧
           t.composer = if modeOf t h = .line then { s.composer with cursor := 0, p := s.lines.current.snapshot }
             else s.composer) ∧
         (¬ acts → t.lines = s.lines ∧ t.composer = s.composer)) ∧
        Frame [.links, .settings, .lines, .composer] s t)

/-- SET_TAB (R26): a position above 1559 is brought to 1559; a stop already held changes nothing, a full list refuses, any other
position comes in at its place in ascending order. CLEAR_TAB and CLEAR_TABS (R27): the position leaves the list, the others
keeping their order, or the list is emptied; both are answered OK, and nothing else changes. A payload of another length, and
one on CLEAR_TABS, is answered BAD REQUEST by R197 (notes/assumptions/26.md). -/
def Obligations.TabStops : Prop :=
  (∀ st (hi lo : Byte) s, Ready .setTab st [hi, lo] s →
    let asked := hi.toNat * 256 + lo.toNat
    let x := min 1559 asked
    let status := if 1559 < asked then Status.clamped else .ok
    (x ∈ s.settings.tabs → ∃ t, Machine.exec (.setTab st [hi, lo]) s = .next t ∧ Yields st ⟨status, []⟩ s s t) ∧
    (x ∉ s.settings.tabs → 16 ≤ s.settings.tabs.length →
      ∃ t, Machine.exec (.setTab st [hi, lo]) s = .next t ∧ Refused st .full s t) ∧
    (x ∉ s.settings.tabs → s.settings.tabs.length < 16 → s.settings.tabs.Pairwise (· < ·) →
      ∃ t before after, Machine.exec (.setTab st [hi, lo]) s = .next t ∧ s.settings.tabs = before ++ after ∧
        (before ++ x :: after).Pairwise (· < ·) ∧
        Yields st ⟨status, []⟩ { s with settings := { s.settings with tabs := before ++ x :: after } } s t)) ∧
  (∀ st (hi lo : Byte) s, Ready .clearTab st [hi, lo] s → ∃ t, Machine.exec (.clearTab st [hi, lo]) s = .next t ∧
    Yields st ⟨.ok, []⟩ { s with settings := { s.settings with
      tabs := s.settings.tabs.filter (· ≠ hi.toNat * 256 + lo.toNat) } } s t) ∧
  (∀ st s, Ready .clearTabs st [] s → ∃ t, Machine.exec (.clearTabs st []) s = .next t ∧
    Yields st ⟨.ok, []⟩ { s with settings := { s.settings with tabs := [] } } s t) ∧
  (∀ st payload s, payload.length ≠ 2 →
    (Ready .setTab st payload s → ∃ t, Machine.exec (.setTab st payload) s = .next t ∧ Refused st .badRequest s t) ∧
    (Ready .clearTab st payload s → ∃ t, Machine.exec (.clearTab st payload) s = .next t ∧ Refused st .badRequest s t)) ∧
  ∀ st payload s, payload ≠ [] → Ready .clearTabs st payload s →
    ∃ t, Machine.exec (.clearTabs st payload) s = .next t ∧ Refused st .badRequest s t

/-- SET_CLASSES (R4): the failures, each with its answer, then each entry of the run is written, a fold code other than a LETTER's
being the entry's own code; every other entry stays. A payload of the wrong length with other failures in it is met in
RequestsAreAnsweredOnTheirLink. -/
def Obligations.SetClassesWritesTheRun : Prop :=
  (∀ st payload s, payload.length < 2 → Ready .setClasses st payload s →
    ∃ t, Machine.exec (.setClasses st payload) s = .next t ∧ Refused st .badRequest s t) ∧
  ∀ st (first count : Byte) data s, Ready .setClasses st (first :: count :: data) s → s.wheels.classes.length = 256 →
    let valid := 1 ≤ count.toNat ∧ count.toNat ≤ 19 ∧ 0x21 ≤ first.toNat ∧ first.toNat + count.toNat ≤ 256 ∧
      ∀ i k f, i < count.toNat → data[2 * i]? = some k → data[2 * i + 1]? = some f →
        2 ≤ k.toNat ∧ k.toNat ≤ 6 ∧ (k.toNat = 2 → 0x20 ≤ f.toNat)
    (data.length ≠ 2 * count.toNat → valid →
      ∃ t, Machine.exec (.setClasses st (first :: count :: data)) s = .next t ∧ Refused st .badRequest s t) ∧
    (data.length = 2 * count.toNat →
      (¬ valid → ∃ t, Machine.exec (.setClasses st (first :: count :: data)) s = .next t ∧ Refused st .badValue s t) ∧
      (valid → ∃ t, Machine.exec (.setClasses st (first :: count :: data)) s = .next t ∧ Answered st ⟨.ok, []⟩ s t ∧
        (∀ c : Code, (c.toNat < first.toNat ∨ first.toNat + count.toNat ≤ c.toNat) → classEntry t c = classEntry s c) ∧
        (∀ (c : Code) k f, first.toNat ≤ c.toNat → c.toNat < first.toNat + count.toNat →
          data[2 * (c.toNat - first.toNat)]? = some k → data[2 * (c.toNat - first.toNat) + 1]? = some f →
          (classOf t c).number = k.toNat ∧ (classEntry t c).fold = if k.toNat = 2 then f else c) ∧
        t.wheels = { s.wheels with classes := t.wheels.classes } ∧ Frame [.links, .wheels] s t))

/-! ## Wheel tables -/

/-- LOAD_WHEEL_TABLE in its HEADER form and ERASE_WHEEL_TABLE (R6, R9): the checks; a header leaves the slot LOADING, every
entry the placeholder, the written set empty; an erasure leaves it EMPTY; when the slot was the mounted table, NO WHEEL TABLE
is raised with the mounted ID (R13), and the offerable flag is judged (R93). A form byte of LOAD_WHEEL_TABLE other than 0, 1
and 2 is BAD VALUE whatever follows it (R203); that the header's row stands for it is notes/assumptions/1.md. -/
def Obligations.HeaderAndEraseEmptyTheSlot : Prop :=
  (∀ st (form : Byte) rest s, 2 < form.toNat → Ready .loadWheelTable st (form :: rest) s →
    rowOfCode st ReqKind.loadWheelTable.code (form :: rest) = .loadWheelTableHeader st (form :: rest) ∧
    ∃ t, Machine.exec (.loadWheelTableHeader st (form :: rest)) s = .next t ∧ Refused st .badValue s t) ∧
  (∀ st (slot wheel native under space : Byte) s, Ready .loadWheelTable st [0, slot, wheel, native, under, space] s →
    let valid := slot.toNat ≤ 3 ∧ wheel.toNat ≤ 62 ∧ native.toNat ≤ 3 ∧ under.toNat ≤ 95 ∧ 2 ≤ space.toNat ∧ space.toNat ≤ 6
    (¬ valid → ∃ t, Machine.exec (.loadWheelTableHeader st [0, slot, wheel, native, under, space]) s = .next t ∧
      Refused st .badValue s t) ∧
    (valid → ∃ t h, Machine.exec (.loadWheelTableHeader st [0, slot, wheel, native, under, space]) s = .next t ∧
      h.wheelId = wheel.toNat ∧ h.native.number = native.toNat ∧ h.underscore = under.toNat ∧ h.space = space.toNat ∧
      (let x := Slot.loading h (List.replicate 224 ⟨none, space.toNat, 2, .spacing, none⟩) (List.replicate 224 false)
       let u : State := { s with wheels := { s.wheels with slots := s.wheels.slots.set slot.toNat x } }
       (mountedTable s ≠ none → mountedTable u = none →
         Yields st ⟨.ok, []⟩ (judge (raise .noWheelTable [byte s.wheels.mounted] u)) s t) ∧
       (mountedTable s = none ∨ mountedTable u ≠ none → Yields st ⟨.ok, []⟩ (judge u) s t)))) ∧
  ∀ st (slot : Byte) s, Ready .eraseWheelTable st [slot] s →
    (3 < slot.toNat → ∃ t, Machine.exec (.eraseWheelTable st [slot]) s = .next t ∧ Refused st .badValue s t) ∧
    (slot.toNat ≤ 3 → ∃ t, Machine.exec (.eraseWheelTable st [slot]) s = .next t ∧
      (let u : State := { s with wheels := { s.wheels with slots := s.wheels.slots.set slot.toNat .empty } }
       (mountedTable s ≠ none → mountedTable u = none →
         Yields st ⟨.ok, []⟩ (judge (raise .noWheelTable [byte s.wheels.mounted] u)) s t) ∧
       (mountedTable s = none ∨ mountedTable u ≠ none → Yields st ⟨.ok, []⟩ (judge u) s t)))

/-- LOAD_WHEEL_TABLE in its ENTRIES form (R7): checked whole; an accepted run writes its entries and adds their codes to the
written set, every other entry and slot staying. In its FINAL form (R8): the checks; then every other slot LOADED with the same
wheel ID becomes EMPTY, the slot becomes LOADED, and, if its wheel is the mounted one, the PENDING STRIKE orders are
re-resolved. The layout of an entry is R203's; that bit 2 of its second byte, to which R203 gives no meaning, is ignored, is the
model's reading (notes/assumptions/25.md), and so is the order of the checks (46.md). -/
def Obligations.EntriesAndFinalLoadTheTable : Prop :=
  (∀ st (slot first count : Byte) data s, Ready .loadWheelTable st (1 :: slot :: first :: count :: data) s →
    (data.length ≠ 3 * count.toNat → ∃ t,
      Machine.exec (.loadWheelTableEntries st (1 :: slot :: first :: count :: data)) s = .next t ∧
        Refused st .badRequest s t) ∧
    (data.length = 3 * count.toNat → 3 < slot.toNat → ∃ t,
      Machine.exec (.loadWheelTableEntries st (1 :: slot :: first :: count :: data)) s = .next t ∧ Refused st .badValue s t) ∧
    (data.length = 3 * count.toNat → slot.toNat ≤ 3 → (∀ h es ws, s.wheels.slots[slot.toNat]? ≠ some (.loading h es ws)) →
      ∃ t, Machine.exec (.loadWheelTableEntries st (1 :: slot :: first :: count :: data)) s = .next t ∧
        Refused st .notNow s t) ∧
    ∀ h es ws, data.length = 3 * count.toNat → slot.toNat ≤ 3 → s.wheels.slots[slot.toNat]? = some (.loading h es ws) →
      es.length = 224 → ws.length = 224 →
      let valid := 1 ≤ count.toNat ∧ count.toNat ≤ 12 ∧ 0x20 ≤ first.toNat ∧ first.toNat + count.toNat ≤ 256 ∧
        ∀ i a b c, i < count.toNat → data[3 * i]? = some a → data[3 * i + 1]? = some b → data[3 * i + 2]? = some c →
          (a = 0xFF ∨ a.toNat ≤ 95) ∧ 2 ≤ b.toNat / 32 ∧ b.toNat / 32 ≤ 6 ∧ b.toNat % 4 ≤ 2 ∧
            (b.toNat % 4 = 2 → c.toNat ≤ 95)
      (¬ valid → ∃ t, Machine.exec (.loadWheelTableEntries st (1 :: slot :: first :: count :: data)) s = .next t ∧
        Refused st .badValue s t) ∧
      (valid → ∃ t es' ws', Machine.exec (.loadWheelTableEntries st (1 :: slot :: first :: count :: data)) s = .next t ∧
        Yields st ⟨.ok, []⟩ { s with wheels := { s.wheels with
          slots := s.wheels.slots.set slot.toNat (.loading h es' ws') } } s t ∧
        es'.length = 224 ∧ ws'.length = 224 ∧
        (∀ n, n < first.toNat - 0x20 ∨ first.toNat - 0x20 + count.toNat ≤ n → es'[n]? = es[n]? ∧ ws'[n]? = ws[n]?) ∧
        ∀ i a b c, i < count.toNat → data[3 * i]? = some a → data[3 * i + 1]? = some b → data[3 * i + 2]? = some c →
          ws'[first.toNat - 0x20 + i]? = some true ∧
          ∃ e, es'[first.toNat - 0x20 + i]? = some e ∧ e.petal = (if a = 0xFF then none else some a.toNat) ∧
            e.width = b.toNat / 32 ∧ e.energy = b.toNat / 8 % 4 + 1 ∧ e.kind.number = b.toNat % 4 ∧
            e.second = if b.toNat % 4 = 2 then some c.toNat else none)) ∧
  ∀ st (slot expected : Byte) s, Ready .loadWheelTable st [2, slot, expected] s → s.wheels.slots.length = 4 →
    (3 < slot.toNat → ∃ t, Machine.exec (.loadWheelTableFinal st [2, slot, expected]) s = .next t ∧
      Refused st .badValue s t) ∧
    (slot.toNat ≤ 3 → (∀ h es ws, s.wheels.slots[slot.toNat]? ≠ some (.loading h es ws)) →
      ∃ t, Machine.exec (.loadWheelTableFinal st [2, slot, expected]) s = .next t ∧ Refused st .notNow s t) ∧
    ∀ h es ws, s.wheels.slots[slot.toNat]? = some (.loading h es ws) →
      (expected.toNat ≠ ws.count true → ∃ t, Machine.exec (.loadWheelTableFinal st [2, slot, expected]) s = .next t ∧
        Refused st .badValue s t) ∧
      (expected.toNat = ws.count true → ∃ t slots, Machine.exec (.loadWheelTableFinal st [2, slot, expected]) s = .next t ∧
        slots.length = 4 ∧ slots[slot.toNat]? = some (.loaded h es) ∧
        (∀ n x, n ≠ slot.toNat → s.wheels.slots[n]? = some x →
          ((∃ h' es', x = .loaded h' es' ∧ h'.wheelId = h.wheelId) → slots[n]? = some .empty) ∧
          ((∀ h' es', x = .loaded h' es' → h'.wheelId ≠ h.wheelId) → slots[n]? = some x)) ∧
        (let u : State := { s with wheels := { s.wheels with slots := slots } }
         (h.wheelId = s.wheels.mounted → Yields st ⟨.ok, []⟩ (judge (reResolve u)) s t) ∧
         (h.wheelId ≠ s.wheels.mounted → Yields st ⟨.ok, []⟩ u s t)))

/-- WHEEL_REPORT (R11): an ID above 63 is refused, a report of the mounted ID changes nothing, any other is a wheel change
(R14): WHEEL CHANGED with the old and the new ID, then re-resolution when a table is LOADED for the new one, or NO WHEEL TABLE
(R13) when none is. -/
def Obligations.WheelReportIsAWheelChange : Prop :=
  ∀ st (id : Byte) s, Ready .wheelReport st [id] s →
    (63 < id.toNat → ∃ t, Machine.exec (.wheelReport st [id]) s = .next t ∧ Refused st .badValue s t) ∧
    (id.toNat ≤ 63 → id.toNat = s.wheels.mounted → ∃ t, Machine.exec (.wheelReport st [id]) s = .next t ∧
      Yields st ⟨.ok, []⟩ s s t) ∧
    (id.toNat ≤ 63 → id.toNat ≠ s.wheels.mounted → ∃ t, Machine.exec (.wheelReport st [id]) s = .next t ∧
      (let u := raise .wheelChanged [byte s.wheels.mounted, id] { s with wheels := { s.wheels with mounted := id.toNat } }
       ((∃ x ∈ s.wheels.slots, ∃ h es, x = .loaded h es ∧ h.wheelId = id.toNat) →
         Yields st ⟨.ok, []⟩ (judge (reResolve u)) s t) ∧
       ((∀ x ∈ s.wheels.slots, ∀ h es, x = .loaded h es → h.wheelId ≠ id.toNat) →
         Yields st ⟨.ok, []⟩ (judge (raise .noWheelTable [id] u)) s t)))

/-- Re-resolution (R15, R16): only PENDING STRIKE orders change; one whose code is on the wheel takes petal, class, wheel and cost
afresh, a SECOND strike of a code no longer COMPOSITE and every strike of a code not on the wheel leave the queue with the LIFTs
linked to their serials, the others keeping their order. A cell loses one outstanding strike for each order it loses, and becomes
PRINTED when none is left; one whose code is not on the wheel gains NOT ON WHEEL; a LIFTING cell is judged by R137; that one with
no LIFT and no record but a STRIKE still in the queue leaves LIFTING is the model's reading (notes/assumptions/19.md). SKIPPED
CHARACTERS counts the cells whose code is not on the wheel. A HELD or SPELL HOLD cell, which has no order (Law 8), stands as it
was, its width and its mark included (R14); only a ticket that it shared with a LIFTING cell would go with that cell (R159). P, C
and the order serial counter stay. -/
def Obligations.ReResolutionOfPendingStrikes : Prop :=
  (∀ t s o, (o.fetched = true ∨ o.job.kind ≠ .strike) → strikeFate t s o = .kept o) ∧
  (∀ t s o c r, o.fetched = false → o.job.kind = .strike → o.job.cell.bind (findCell s) = some c → o.job.role = some r →
    (t.has c.code = false → strikeFate t s o = .skipped) ∧
    (t.has c.code = true → r = .second → t.composite c.code = false → strikeFate t s o = .lost) ∧
    (t.has c.code = true → (r = .second → t.composite c.code = true) →
      ∃ petal second cls, t.resolve c.code r = some (petal, second, cls) ∧
        strikeFate t s o = .kept { o with
          cost := min s.energy.capacity
            (classCost s.energy (adjustedClass s.energy.impression cls) + travelPart s.energy o.travel)
          job := { o.job with
            petal := petal, second := second, energy := some (adjustedClass s.energy.impression cls)
            wheel := some t.header.wheelId } })) ∧
  (∀ s, mountedTable s = none → reResolve s = s) ∧
  ∀ s t, mountedTable s = some t →
    let gone := s.dispatch.orders.filter fun o => strikeFate t s o = .lost ∨ strikeFate t s o = .skipped
    let stays := fun j : Job => ∀ o ∈ gone, j.link ≠ some (.serial o.serial)
    let u := reResolve s
    (∀ o', o' ∈ u.dispatch.orders ↔ ∃ o ∈ s.dispatch.orders, strikeFate t s o = .kept o' ∧ stays o'.job) ∧
    (u.dispatch.orders.map (·.serial)).Sublist (s.dispatch.orders.map (·.serial)) ∧
    (∀ j, j ∈ u.correction.held ↔ j ∈ s.correction.held ∧ stays j) ∧ u.correction.held.Sublist s.correction.held ∧
    (((allCells s).map (·.id)).Nodup → ∀ c ∈ allCells s,
      let lost := gone.countP (·.job.cell = some c.id)
      let skipped := ∃ o ∈ s.dispatch.orders, strikeFate t s o = .skipped ∧ o.job.cell = some c.id
      let lifts := (∃ o ∈ u.dispatch.orders, o.job.kind = .lift ∧ o.job.cell = some c.id) ∨
        ∃ j ∈ u.correction.held, j.kind = .lift ∧ j.cell = some c.id
      let strikes := (∃ o ∈ u.dispatch.orders, o.job.kind = .strike ∧ o.job.cell = some c.id) ∨
        ∃ r ∈ u.correction.memory, r.cell = some c.id
      (c.state ≠ .lifting ∨ lost = 0 ∨ lifts ∨ strikes → ∃ d ∈ allCells u, d.id = c.id ∧ d.code = c.code ∧ d.start = c.start ∧
        d.width = c.width ∧ d.outstanding = c.outstanding - lost ∧ (d.notOnWheel = true ↔ c.notOnWheel = true ∨ skipped) ∧
        (c.state = .printed → d.state = .printed) ∧
        (c.state = .released → d.state = if 0 < lost ∧ c.outstanding ≤ lost then .printed else .released) ∧
        (c.state = .lifting → d.state = if lost = 0 ∨ lifts then .lifting
          else if c.outstanding ≤ lost then .printed else .released)) ∧
      (c.state = .lifting → 0 < lost → ¬ lifts → ¬ strikes → ∀ d ∈ allCells u, d.id ≠ c.id) ∧
      (c.isHeld = true → (∀ o ∈ s.dispatch.orders, o.job.cell ≠ some c.id) →
        (c.ticket = none ∨ ∀ x ∈ allCells s, x.state = .lifting → x.ticket ≠ c.ticket) → c ∈ allCells u)) ∧
    (reResolve s).composer.p = s.composer.p ∧
    (reResolve s).dispatch = { s.dispatch with orders := (reResolve s).dispatch.orders } ∧
    (reResolve s).correction.memory = s.correction.memory ∧
    (reResolve s).notices = (skippedCharacters
      ((s.dispatch.orders.filter fun o => strikeFate t s o = .skipped).filterMap (·.job.cell)).dedup.length s).notices ∧
    Frame [.dispatch, .correction, .lines, .composer, .spelling, .notices] s (reResolve s)

/-! ## Orders -/

/-- An order appended to the queue stands at its tail, PENDING (R89); its serial is the first from the counter on that no order
and no strike record uses, or, with all 256 in use, that of the oldest record, which is dropped (R88); its travel is the distance
from the target of the order before it, or from C (R114); its cost is the class part, with the surcharge for a LIFT, plus the
travel part, limited by the capacity (R115). The distance of two positions is their absolute difference; the travel part is a
120th of the travel, rounded up, while the travel charge is ON, and 0 while it is OFF (R114); the class part is the cost set for
the class (R111); so too where other statements name these. Where all 256 serials are in use, that the counter stands one after
the serial taken is notes/assumptions/30.md. -/
def Obligations.AppendedOrdersTakeSerialTravelAndCost : Prop :=
  (∀ a b : Nat, (distance a b : Int) = |(a : Int) - b|) ∧
  (∀ e travel, (e.travelCharge = false → travelPart e travel = 0) ∧
    (e.travelCharge = true → travel ≤ 120 * travelPart e travel ∧ 120 * travelPart e travel < travel + 120)) ∧
  (∀ e, classCost e 1 = e.cost1 ∧ classCost e 2 = e.cost2 ∧ classCost e 3 = e.cost3 ∧ classCost e 4 = e.cost4) ∧
  ∀ j s, SerialsOk s → s.dispatch.orders.length < 32 → ∃ n travel cost,
    (appendJob j s).dispatch.orders = s.dispatch.orders ++ [⟨n, false, travel, cost, j⟩] ∧
    (appendJob j s).dispatch.counter = n + 1 ∧ SerialsOk (appendJob j s) ∧
    (s.dispatch.orders = [] → travel = distance j.target s.dispatch.c) ∧
    (∀ o, s.dispatch.orders.getLast? = some o → travel = distance j.target o.job.target) ∧
    (∀ k, j.kind = .strike → j.energy = some k →
      cost = min s.energy.capacity (classCost s.energy k + travelPart s.energy travel)) ∧
    (∀ k, j.kind = .lift → j.energy = some k →
      cost = min s.energy.capacity (classCost s.energy k + s.energy.surcharge + travelPart s.energy travel)) ∧
    (j.kind ≠ .strike → j.kind ≠ .lift → cost = min s.energy.capacity (travelPart s.energy travel)) ∧
    ((∃ k, serialInUse s k = false) → ∃ i, i < 256 ∧ n = s.dispatch.counter + byte i ∧ serialInUse s n = false ∧
      (∀ k, k < i → serialInUse s (s.dispatch.counter + byte k) = true) ∧
      (appendJob j s).correction = s.correction ∧ (appendJob j s).lines = s.lines) ∧
    ((∀ k, serialInUse s k = true) → ∃ r rest, s.correction.memory = r :: rest ∧ n = r.serial ∧
      (appendJob j s).correction = { s.correction with memory := rest } ∧
      ∀ id, r.cell = some id → (appendJob j s).lines = (mapCell id (fun c => { c with fixed := true }) s).lines) ∧
    Frame [.dispatch, .correction, .lines] s (appendJob j s)

/-- The effective pitch (R17), row by row, and the width of a code at it (R19). The strikes of a cell (R22): MAIN, SECOND, BOLD
and UNDERLINE in that order, each where it applies, none for a code that is not on the wheel (R10); their targets, petals and
energy classes, the class adjusted by the impression (R112), their wheel and their ribbon advance (R20). -/
def Obligations.StrikesOfACell : Prop :=
  (∀ s, (s.settings.pitch ≠ .ps → effectivePitch s = s.settings.pitch) ∧
    (∀ t, s.settings.pitch = .ps → mountedTable s = some t → effectivePitch s = t.header.native) ∧
    (s.settings.pitch = .ps → mountedTable s = none → effectivePitch s = .ps)) ∧
  (∀ (t : Table) pitch (code : Code),
    (code ≠ 0x20 → (t.entry code).kind = .nonspacing → t.width pitch code = 0) ∧
    (code = 0x20 ∨ (t.entry code).kind ≠ .nonspacing → t.width pitch code = match pitch with
      | .p10 => 12
      | .p12 => 10
      | .p15 => 8
      | .ps => 2 * if code = 0x20 then t.header.space else (t.entry code).width)) ∧
  (∀ n, adjustedClass .normal n = n ∧ adjustedClass .light n = max 1 (n - 1) ∧ adjustedClass .heavy n = min 4 (n + 1)) ∧
  ∀ (t : Table) imp c,
    (c.code ≠ 0x20 → (t.entry c.code).petal = none → strikeJobs t imp c = []) ∧
    (c.code = 0x20 ∨ (t.entry c.code).petal ≠ none →
      (strikeJobs t imp c).map (·.role) = ([Role.main, .second, .bold, .underline].filter fun r => match r with
        | .main => decide (c.code ≠ 0x20)
        | .second => decide (c.code ≠ 0x20 ∧ (t.entry c.code).kind = .composite)
        | .bold => decide (c.bold = true ∧ c.code ≠ 0x20)
        | .underline => decide (c.underline = true ∧ 0 < c.width)).map some ∧
      ∀ j ∈ strikeJobs t imp c, j.kind = .strike ∧ j.wheel = some t.header.wheelId ∧
        j.width = some (if c.width = 0 then 2 else c.width) ∧ j.source = sourceOf c.source ∧ j.cell = some c.id ∧
        j.link = none ∧ j.feed = none ∧
        (j.role = some .main → j.target = c.start + c.width / 2 ∧ j.petal = (t.entry c.code).petal ∧ j.second = none ∧
          j.energy = some (adjustedClass imp (t.entry c.code).energy)) ∧
        (j.role = some .second → j.target = c.start + c.width / 2 ∧ j.petal = (t.entry c.code).second ∧ j.second = none ∧
          j.energy = some (adjustedClass imp (t.entry c.code).energy)) ∧
        (j.role = some .bold → j.target = min (c.start + c.width / 2 + 1) 1559 ∧ j.petal = (t.entry c.code).petal ∧
          j.second = (if (t.entry c.code).kind = .composite then (t.entry c.code).second else none) ∧
          j.energy = some (adjustedClass imp (t.entry c.code).energy)) ∧
        (j.role = some .underline → j.target = c.start + c.width / 2 ∧ j.petal = some t.header.underscore ∧
          j.second = none ∧ j.energy = some (adjustedClass imp 1)))

/-- A gate reason is the answer for a head order exactly when its own gate is closed and every gate before it in the order of
R92 is open; the part judges the offerable flag by the gates (R93): a newly offerable head raises ORDERS WAITING with its
serial, and a head LIFT of another wheel raises CANNOT LIFT once (R141), its reason numbered by notes/assumptions/28.md. -/
def Obligations.GatesAndTheOfferableFlag : Prop :=
  (∀ s o r, gate s o = r ↔ Closed s o r ∧ ∀ r', r'.number < r.number → ¬ Closed s o r') ∧
  (∀ s, OfferOk (judge s)) ∧
  (∀ s, isOfferable s = true → s.dispatch.offerable = true →
    judge s = { s with correction := { s.correction with wrongWheel := none } }) ∧
  (∀ s o, isOfferable s = true → s.dispatch.offerable = false → headOrder s = some o →
    judge s = raise .ordersWaiting [o.serial] { s with
      dispatch := { s.dispatch with offerable := true }
      correction := { s.correction with wrongWheel := none } }) ∧
  (∀ s, isOfferable s = false → (∀ o, headOrder s = some o → o.job.kind = .lift → o.job.wheel = some s.wheels.mounted) →
    judge s = { s with
      dispatch := { s.dispatch with offerable := false }
      correction := { s.correction with wrongWheel := none } }) ∧
  ∀ s o w, headOrder s = some o → o.job.kind = .lift → o.job.wheel = some w → w ≠ s.wheels.mounted →
    (s.correction.wrongWheel = some o.serial → judge s = { s with dispatch := { s.dispatch with offerable := false } }) ∧
    (s.correction.wrongWheel ≠ some o.serial → judge s = raise .cannotLift [2, byte w] { s with
      dispatch := { s.dispatch with offerable := false }
      correction := { s.correction with wrongWheel := some o.serial } })

/-- FETCH_ORDER and READ_NEXT_ORDER (R94, R95, R191): a closed gate is answered NONE with its reason; with every gate open the
head order becomes FETCHED, its cost leaves the energy level, the step credit is used, and the answer is its record. Without a
PENDING order the reason is EMPTY, in the HALTED state too (notes/assumptions/44.md). The 20 bytes of an order record (R203):
serial, kind, state, target, petal, second petal, energy class, wheel ID, width, feed, travel, cost, source, role, the cell's
line and its index in it, and the link's type and serial. That an absent cell reference is 0xFF twice, and an absent link's
serial 0xFF, is notes/assumptions/28.md. -/
def Obligations.FetchOrderHandsOverTheHead : Prop :=
  (∀ st s, Ready .fetchOrder st [] s →
    (headOrder s = none → ∃ t, Machine.exec (.fetchOrder st []) s = .next t ∧ Yields st ⟨.none_, [0, 0xFF]⟩ s s t) ∧
    (∀ o, headOrder s = some o → gate s o ≠ .open_ → ∃ t, Machine.exec (.fetchOrder st []) s = .next t ∧
      Yields st ⟨.none_, [byte (gate s o).number, if gate s o = .wrongWheel then absentByte o.job.wheel else 0xFF]⟩ s s t) ∧
    ∀ o, headOrder s = some o → gate s o = .open_ → ∃ t before after, Machine.exec (.fetchOrder st []) s = .next t ∧
      s.dispatch.orders = before ++ o :: after ∧ (∀ b ∈ before, b.fetched = true) ∧
      Yields st ⟨.ok, orderRecord s { o with fetched := true }⟩ (judge { s with
        dispatch := { s.dispatch with orders := before ++ { o with fetched := true } :: after }
        energy := { s.energy with level := s.energy.level - o.cost }
        service := { s.service with credit := if s.service.stepping = true then false else s.service.credit } }) s t) ∧
  (∀ st s, Ready .readNextOrder st [] s →
    (headOrder s = none → ∃ t, Machine.exec (.readNextOrder st []) s = .next t ∧ Refused st .none_ s t) ∧
    ∀ o, headOrder s = some o → ∃ t, Machine.exec (.readNextOrder st []) s = .next t ∧
      Yields st ⟨.ok, orderRecord s o ++ [byte (gate s o).number]⟩ s s t) ∧
  ∀ s o, ∃ line index link n feed : Byte,
    orderRecord s o = [o.serial, byte o.job.kind.number, byte (bit o.fetched), byte (o.job.target / 256), byte o.job.target,
      o.job.petal.elim 0xFF byte, o.job.second.elim 0xFF byte, o.job.energy.elim 0 byte, o.job.wheel.elim 0xFF byte,
      o.job.width.elim 0xFF byte, feed, byte (o.travel / 256), byte o.travel, byte o.cost, byte o.job.source.number,
      o.job.role.elim 0xFF fun r => byte r.number, line, index, link, n] ∧
    (o.job.feed = none → feed = 0x80) ∧ (∀ k, o.job.feed = some k → -128 ≤ k → k ≤ 127 → feed.toInt = k) ∧
    (o.job.cell = none → line = 0xFF ∧ index = 0xFF) ∧
    (∀ (i : Nat) c, ((allCells s).map (·.id)).Nodup → o.job.cell = some c.id →
      (s.lines.current.cells[i]? = some c → line = 0 ∧ index = byte i) ∧
      ∀ l, s.lines.outgoing = some l → l.cells[i]? = some c → line = 1 ∧ index = byte i) ∧
    (o.job.link = none → link = 0 ∧ n = 0xFF) ∧ (∀ id k, o.job.link = some (.record id k) → link = 1 ∧ n = k) ∧
    ∀ k, o.job.link = some (.serial k) → link = 2 ∧ n = k

/-- ORDER_DONE (R96): the refusals; FAILED returns every FETCHED order to PENDING, with a cost the bucket can hold (R118, R120;
notes/assumptions/38.md), and halts the dispatcher with DISPATCH HALTED (R102); DONE of the oldest FETCHED order removes it,
moves C to its target, has the effects of its kind (R98 to R101), is counted (R97), and ends with the judgement of the
offerable flag. -/
def Obligations.OrderDoneByOutcomeAndKind : Prop :=
  ∀ st (serial outcome third : Byte) s, Ready .orderDone st [serial, outcome, third] s →
    (1 < outcome.toNat ∨ (outcome = 1 ∧ 3 < third.toNat) →
      ∃ t, Machine.exec (.orderDone st [serial, outcome, third]) s = .next t ∧ Refused st .badValue s t) ∧
    (outcome.toNat ≤ 1 → (outcome = 1 → third.toNat ≤ 3) →
      (∀ o, s.dispatch.orders.head? = some o → o.fetched = true → o.serial ≠ serial) →
      ∃ t, Machine.exec (.orderDone st [serial, outcome, third]) s = .next t ∧ Refused st .stale s t) ∧
    ∀ o rest, s.dispatch.orders = o :: rest → o.fetched = true → o.serial = serial →
      (outcome = 1 → third.toNat ≤ 3 → ∃ t, Machine.exec (.orderDone st [serial, outcome, third]) s = .next t ∧
        Yields st ⟨.ok, []⟩ (judge (raise .dispatchHalted [serial, third] { s with dispatch := { s.dispatch with
          orders := s.dispatch.orders.map (fun x =>
            if x.fetched = true then { x with fetched := false, cost := min x.cost s.energy.capacity } else x)
          state := .halted } })) s t) ∧
      (outcome = 0 →
        let u : State := { s with dispatch := { s.dispatch with orders := rest, c := o.job.target } }
        (o.job.kind = .init ∨ o.job.kind = .home →
          (63 < third.toNat → ∃ t, Machine.exec (.orderDone st [serial, outcome, third]) s = .next t ∧
            Refused st .badValue s t) ∧
          (third.toNat ≤ 63 → ∃ t, Machine.exec (.orderDone st [serial, outcome, third]) s = .next t ∧
            Yields st ⟨.ok, []⟩ (judge (reportWheel third.toNat (countCompletion o u))) s t)) ∧
        (o.job.kind = .move → ∃ t, Machine.exec (.orderDone st [serial, outcome, third]) s = .next t ∧
          Yields st ⟨.ok, []⟩ (judge (countCompletion o u)) s t) ∧
        (o.job.kind = .feed → ∃ t, Machine.exec (.orderDone st [serial, outcome, third]) s = .next t ∧
          Yields st ⟨.ok, []⟩ (judge (countCompletion o (clearMemory u))) s t) ∧
        (o.job.kind = .ret → ∃ t, Machine.exec (.orderDone st [serial, outcome, third]) s = .next t ∧
          Yields st ⟨.ok, []⟩ (judge (countCompletion o (dropOutgoing o (clearMemory u)))) s t) ∧
        (∀ id, o.job.kind = .lift → o.job.cell = some id →
          ∃ t, Machine.exec (.orderDone st [serial, outcome, third]) s = .next t ∧
            Yields st ⟨.ok, []⟩ (judge (countCompletion o (countHome (judgeLifting id (removeRecord o.job u))))) s t) ∧
        (∀ id, o.job.kind = .strike → o.job.cell = some id →
          ∃ t, Machine.exec (.orderDone st [serial, outcome, third]) s = .next t ∧
            Yields st ⟨.ok, []⟩ (judge (countCompletion o (countHome (mapCell id Cell.strikeGone (makeRecord o u))))) s t))

/-- What a DONE completion leaves: a STRIKE's record at the end of the correction memory, with what it struck, LIFT PENDING when a
LIFT is linked to its serial (R121), where 240 records stand the oldest dropped first, its cell gaining FIXED and its LIFT staying
(R122); a LIFT's record removed (R125), its cell, when LIFTING without a LIFT, removed, or leaving LIFTING while a record, or a
STRIKE to come (notes/assumptions/19.md), is left of it (R137); at a RETURN or FEED the memory cleared (R123): cells of the
current line FIXED, those of the outgoing line not by the model's reading (52.md), LIFTs linked to a record removed unless
FETCHED, with CANNOT LIFT, reason FIXED (its number: notes/assumptions/28.md), LIFTING cells without a LIFT left LIFTING no more;
at the outgoing line's RETURN that line dropped with its cells (R83, R100); the periodic home count one lower, a HOME due and the
count reloaded at 0 (R107); the counters and the ribbon and tape counts (R185 to R188). -/
def Obligations.WhatACompletionLeaves : Prop :=
  (∀ o s r rest, s.correction.memory = r :: rest → s.correction.memory.length = 240 → ∃ new,
    (makeRecord o s).correction.memory = rest ++ [new] ∧ new.serial = o.serial ∧ new.cell = o.job.cell ∧
    (makeRecord o s).dispatch.orders.map (·.serial) = s.dispatch.orders.map (·.serial) ∧
    (makeRecord o s).correction.held.length = s.correction.held.length ∧
    (∀ id, r.cell = some id → (makeRecord o s).lines = (mapCell id (fun c => { c with fixed := true }) s).lines) ∧
    (r.cell = none → (makeRecord o s).lines = s.lines) ∧ Frame [.dispatch, .correction, .lines] s (makeRecord o s)) ∧
  (∀ j s, (removeRecord j s).correction.memory.Sublist s.correction.memory ∧
    (∀ r, r ∈ (removeRecord j s).correction.memory ↔ r ∈ s.correction.memory ∧ ∀ n, j.link ≠ some (.record r.id n)) ∧
    (removeRecord j s).correction.held = s.correction.held ∧ Frame [.correction] s (removeRecord j s)) ∧
  (∀ id s c, findCell s id = some c →
    let lifts := (∃ o ∈ s.dispatch.orders, o.job.kind = .lift ∧ o.job.cell = some id) ∨
      ∃ j ∈ s.correction.held, j.kind = .lift ∧ j.cell = some id
    let strikes := (∃ o ∈ s.dispatch.orders, o.job.kind = .strike ∧ o.job.cell = some id) ∨
      ∃ r ∈ s.correction.memory, r.cell = some id
    (c.state ≠ .lifting ∨ lifts → judgeLifting id s = s) ∧
    (c.state = .lifting → ¬ lifts → strikes → judgeLifting id s = mapCell id (fun x =>
      if x.state = .lifting then { x with state := if x.outstanding = 0 then .printed else .released } else x) s) ∧
    (c.state = .lifting → ¬ lifts → ¬ strikes →
      (allCells (judgeLifting id s)).map (·.id) = ((allCells s).map (·.id)).filter (· ≠ id) ∧
      Frame [.lines, .composer, .spelling] s (judgeLifting id s))) ∧
  (∀ s,
    let u := clearMemory s
    let goes := fun j : Job => j.kind = .lift ∧ j.recordId ≠ none
    let lifts := fun id : Nat => (∃ o ∈ u.dispatch.orders, o.job.kind = .lift ∧ o.job.cell = some id) ∨
      ∃ j ∈ u.correction.held, j.kind = .lift ∧ j.cell = some id
    let left := fun c d : Cell => { d with fixed := c.fixed } = { c with state := d.state } ∧
      (c.state = .lifting → ¬ lifts c.id → d.state = if c.outstanding = 0 then .printed else .released) ∧
      (c.state ≠ .lifting ∨ lifts c.id → d.state = c.state)
    u.correction.memory = [] ∧ u.dispatch.orders.Sublist s.dispatch.orders ∧
    (∀ o, o ∈ u.dispatch.orders ↔ o ∈ s.dispatch.orders ∧ (o.fetched = true ∨ ¬ goes o.job)) ∧
    u.correction.held.Sublist s.correction.held ∧ (∀ j, j ∈ u.correction.held ↔ j ∈ s.correction.held ∧ ¬ goes j) ∧
    u.lines.current.cells.length = s.lines.current.cells.length ∧
    (∀ (i : Nat) c d, s.lines.current.cells[i]? = some c → u.lines.current.cells[i]? = some d → left c d ∧
      (d.fixed = true ↔ c.fixed = true ∨ ∃ r ∈ s.correction.memory, r.cell = some c.id)) ∧
    (s.lines.outgoing = none → u.lines.outgoing = none) ∧
    (∀ l, s.lines.outgoing = some l → ∃ l', u.lines.outgoing = some l' ∧ l'.returnSerial = l.returnSerial ∧
      l'.cells.length = l.cells.length ∧
      ∀ (i : Nat) c d, l.cells[i]? = some c → l'.cells[i]? = some d → left c d ∧ d.fixed = c.fixed) ∧
    u.notices = (if (∃ o ∈ s.dispatch.orders, o.fetched = false ∧ goes o.job) ∨ ∃ j ∈ s.correction.held, goes j then
      raise .cannotLift [1, 63] s else s).notices ∧
    Frame [.dispatch, .correction, .lines, .notices] s u) ∧
  (∀ o s, (∀ l, s.lines.outgoing = some l → o.job.kind = .ret → l.returnSerial = some o.serial →
      (dropOutgoing o s).lines.outgoing = none ∧
      (dropOutgoing o s).lines.current.cells.map (·.id) =
        (s.lines.current.cells.map (·.id)).filter (fun i => !(l.cells.map (·.id)).contains i) ∧
      Frame [.lines, .composer, .spelling] s (dropOutgoing o s)) ∧
    ((∀ l, s.lines.outgoing = some l → o.job.kind ≠ .ret ∨ l.returnSerial ≠ some o.serial) → dropOutgoing o s = s)) ∧
  (∀ o s, s.correction.memory.length < 240 → ∃ r, (makeRecord o s).correction.memory = s.correction.memory ++ [r] ∧
    r.position = o.job.target ∧ r.petal = o.job.petal ∧ r.second = o.job.second ∧ r.energy = o.job.energy ∧
    r.wheel = o.job.wheel ∧ r.role = o.job.role ∧ r.cell = o.job.cell ∧ r.serial = o.serial ∧
    (r.pending = true ↔ (∃ p ∈ s.dispatch.orders, p.job.link = some (.serial o.serial)) ∨
      ∃ j ∈ s.correction.held, j.link = some (.serial o.serial)) ∧
    (∀ p ∈ (makeRecord o s).dispatch.orders, p.job.link ≠ some (.serial o.serial)) ∧
    Frame [.dispatch, .correction] s (makeRecord o s)) ∧
  (∀ s, (s.dispatch.homeInterval = 0 → countHome s = s) ∧
    (s.dispatch.homeInterval ≠ 0 → s.dispatch.homeCount = 1 → countHome s = { s with dispatch := { s.dispatch with
      homeCount := s.dispatch.homeInterval * 100, homeDue := true } }) ∧
    (s.dispatch.homeInterval ≠ 0 → s.dispatch.homeCount ≠ 1 → countHome s = { s with dispatch := { s.dispatch with
      homeCount := s.dispatch.homeCount - 1 } })) ∧
  (∀ o s, (countCompletion o s).service.counters.length = s.service.counters.length ∧
    ∀ (n : Nat) (c : Counter), s.service.counters[n]? = some c →
      let adds := s.service.frozen = false ∧ byte (2 ^ o.job.kind.number) &&& c.kindMask = c.kindMatch ∧
        byte (2 ^ o.job.source.number) &&& c.sourceMask = c.sourceMatch
      let amount := match c.measure with
        | .orders => 1
        | .steps => o.travel
        | .tokens => o.cost
      (¬ adds → (countCompletion o s).service.counters[n]? = some c) ∧
      (adds → (countCompletion o s).service.counters[n]? = some { c with
        value := min 4294967295 (c.value + amount),
        overflow := c.overflow || decide (4294967295 < c.value + amount) })) ∧
  ∀ o s, (countCompletion o s).service.ribbon = (if o.job.kind = .strike then s.service.ribbon - o.job.width.getD 0
      else s.service.ribbon) ∧
    (countCompletion o s).service.tape = (if o.job.kind = .lift then s.service.tape - 1 else s.service.tape) ∧
    (countCompletion o s).notices =
      (if o.job.kind = .strike ∧ s.service.ribbonThreshold < s.service.ribbon ∧
          s.service.ribbon - o.job.width.getD 0 ≤ s.service.ribbonThreshold then
        raise .supplyLow (0 :: bytesOf 3 (s.service.ribbon - o.job.width.getD 0)) s
      else if o.job.kind = .lift ∧ s.service.tapeThreshold < s.service.tape ∧ s.service.tape - 1 ≤ s.service.tapeThreshold then
        raise .supplyLow (1 :: bytesOf 3 (s.service.tape - 1)) s
      else s).notices ∧ Frame [.service, .notices] s (countCompletion o s)

/-- RESUME and DISCARD (R104, R105): NOT NOW unless HALTED. RESUME removes the PENDING STRIKEs that a LIFT is linked to and
those LIFTs (R138): a cell loses one outstanding strike for each STRIKE removed, and a LIFTING one that lost any is removed when
nothing of it is left, leaves LIFTING when no LIFT is, and stays LIFTING otherwise (R137; by a STRIKE left,
notes/assumptions/19.md). DISCARD removes every order, due HOME and waiting LIFT, leaves every record STANDING and starts again with
an INIT to C. A cell loses one outstanding strike for each STRIKE removed; one that lost strikes and has no record is removed,
one with records is PRINTED when none is outstanding, a LIFTING one leaves LIFTING (R137, R139). The cells of a group issue or
a line release not yet issued are removed, and SKIPPED CHARACTERS is raised for those found not on the wheel (R74, R82). Behind
the INIT stands the RETURN of the outgoing line, if any: that of the release, or one with the feed and the source of the RETURN
removed, its target L; the line records its serial. P becomes the target of the newest order; in WORD composition the held
cells are placed again from there, those now over a struck cell gaining OVERSTRIKE, and P is their end; in LINE composition P
and the cursor stay. A place past 1559 is brought back (notes/assumptions/39.md). -/
def Obligations.ResumeAndDiscard : Prop :=
  (∀ st s, Ready .resume st [] s →
    (s.dispatch.state = .running → ∃ t, Machine.exec (.resume st []) s = .next t ∧ Refused st .notNow s t) ∧
    (s.dispatch.state = .halted → ∃ t, Machine.exec (.resume st []) s = .next t ∧ Answered st ⟨.ok, []⟩ s t ∧
      (let lost := fun o : Order => o.fetched = false ∧ o.job.kind = .strike ∧
        ((∃ p ∈ s.dispatch.orders, p.job.link = some (.serial o.serial)) ∨
          ∃ j ∈ s.correction.held, j.link = some (.serial o.serial))
       let stays := fun j : Job => ∀ o ∈ s.dispatch.orders, lost o → j.link ≠ some (.serial o.serial)
       t.dispatch.state = .running ∧ t.dispatch.c = s.dispatch.c ∧
       (∀ o, o ∈ t.dispatch.orders ↔ o ∈ s.dispatch.orders ∧ ¬ lost o ∧ stays o.job) ∧
       t.dispatch.orders.Sublist s.dispatch.orders ∧ (∀ j, j ∈ t.correction.held ↔ j ∈ s.correction.held ∧ stays j) ∧
       t.correction.memory = s.correction.memory ∧
       (((allCells s).map (·.id)).Nodup → ∀ c ∈ allCells s,
         let gone := s.dispatch.orders.countP fun o => lost o ∧ o.job.cell = some c.id
         let lifts := (∃ o ∈ t.dispatch.orders, o.job.kind = .lift ∧ o.job.cell = some c.id) ∨
           ∃ j ∈ t.correction.held, j.kind = .lift ∧ j.cell = some c.id
         let strikes := (∃ o ∈ t.dispatch.orders, o.job.kind = .strike ∧ o.job.cell = some c.id) ∨
           ∃ r ∈ t.correction.memory, r.cell = some c.id
         (c.state ≠ .lifting ∨ gone = 0 ∨ lifts ∨ strikes → ∃ d ∈ allCells t, d.id = c.id ∧ d.code = c.code ∧
           d.start = c.start ∧ d.width = c.width ∧ d.outstanding = c.outstanding - gone ∧
           (c.state = .printed → d.state = .printed) ∧
           (c.state = .released → d.state = if 0 < gone ∧ c.outstanding ≤ gone then .printed else .released) ∧
           (c.state = .lifting → d.state = if gone = 0 ∨ lifts then .lifting
             else if c.outstanding ≤ gone then .printed else .released)) ∧
         (c.state = .lifting → 0 < gone → ¬ lifts → ¬ strikes → ∀ d ∈ allCells t, d.id ≠ c.id)) ∧
       OfferOk t ∧ Frame [.links, .dispatch, .correction, .lines, .composer, .spelling, .notices] s t))) ∧
  ∀ st s, Ready .discard st [] s →
    (s.dispatch.state = .running → ∃ t, Machine.exec (.discard st []) s = .next t ∧ Refused st .notNow s t) ∧
    (s.dispatch.state = .halted → SerialsOk s → ∃ t o rest, Machine.exec (.discard st []) s = .next t ∧
      Answered st ⟨.ok, []⟩ s t ∧ t.dispatch.state = .running ∧ t.dispatch.c = s.dispatch.c ∧
      t.dispatch.orders = o :: rest ∧ o.fetched = false ∧ o.travel = 0 ∧
      o.job = Job.plain .init s.dispatch.c .automatic none ∧ rest.length ≤ 1 ∧
      (∀ r ∈ rest, r.fetched = false ∧ r.job.kind = .ret ∧ s.lines.outgoing ≠ none) ∧ t.dispatch.homeDue = false ∧
      t.dispatch.homeHeld = none ∧ t.correction.held = [] ∧ t.correction.wrongWheel = none ∧
      t.correction.memory = s.correction.memory.map (fun r => { r with pending := false }) ∧ t.composer.issue = none ∧
      (let lost := fun c : Cell => s.dispatch.orders.countP fun x => x.job.kind = .strike ∧ x.job.cell = some c.id
       let recorded := fun c : Cell => ∃ r ∈ s.correction.memory, r.cell = some c.id
       let cells := t.lines.current.cells
       let x := if rest = [] then s.dispatch.c else s.settings.left
       ((allCells s).map (·.id)).Nodup →
        (∀ c ∈ allCells s,
          (¬ recorded c → 0 < lost c ∨ c.state = .lifting → ∀ d ∈ allCells t, d.id ≠ c.id) ∧
          (c.state = .released ∨ c.state = .printed ∨ c.state = .lifting → recorded c ∨ c.state ≠ .lifting ∧ lost c = 0 →
            ∃ d ∈ allCells t, d.id = c.id ∧ d.code = c.code ∧ d.start = c.start ∧ d.outstanding = c.outstanding - lost c ∧
              d.state = if c.outstanding ≤ lost c ∧ (0 < lost c ∨ c.state = .lifting) then .printed
                else if c.state = .lifting then .released else c.state)) ∧
        (∀ g, s.composer.issue = some g → ∀ c ∈ s.lines.current.cells, c.id ∈ g.left → c.isHeld = true →
          ∀ d ∈ allCells t, d.id ≠ c.id) ∧
        (s.composer.release ≠ none → ∀ l, s.lines.outgoing = some l → ∀ c ∈ l.cells, c.isHeld = true →
          ∀ d ∈ allCells t, d.id ≠ c.id) ∧
        (let u := skippedCharacters ((if s.lines.outgoing = none then none else s.composer.release).elim 0 (·.skipped))
          (skippedCharacters (s.composer.issue.elim 0 (·.skipped)) s)
         ∀ st' n, n.kind ≠ .ordersWaiting → (n ∈ (boardOf t st').pending ↔ n ∈ (boardOf u st').pending)) ∧
        (∀ r l, s.composer.release = some r → s.lines.outgoing = some l → t.composer.release = none ∧ ∃ q, rest = [q] ∧
          q.job = Job.plain .ret s.settings.left (sourceOf r.source) (some s.settings.lineSpacing) ∧
          t.lines.outgoing.map (fun y => (y.state, y.returnSerial)) = some (.printing, some q.serial)) ∧
        (s.composer.release = none → ∀ l, s.lines.outgoing = some l →
          (∀ o' ∈ s.dispatch.orders, ∀ feed : Nat, o'.job.kind = .ret → l.returnSerial = some o'.serial →
            o'.job.feed = some (feed : Int) → ∃ q, rest = [q] ∧
              q.job = Job.plain .ret s.settings.left o'.job.source (some (feed : Int)) ∧
              t.lines.outgoing.bind (·.returnSerial) = some q.serial) ∧
          ((∀ o' ∈ s.dispatch.orders, o'.job.kind = .ret → l.returnSerial ≠ some o'.serial) → rest = [])) ∧
        (s.lines.current.composition = some .line → t.composer.p = s.composer.p ∧ t.composer.cursor = s.composer.cursor) ∧
        (s.lines.current.composition ≠ some .line →
          s.lines.current.composition ≠ some .word ∨ (∀ c ∈ cells, c.isHeld = false) → t.composer.p = x) ∧
        (s.lines.current.composition = some .word → (∃ c ∈ cells, c.isHeld = true) →
          let held := cells.filter (·.isHeld)
          t.composer.p = min 1559 (x + (held.map (·.width)).sum) ∧
          (∀ (i : Nat) c, held[i]? = some c → c.extra = 0 ∧
            c.start = min (x + ((held.take i).map (·.width)).sum) (1559 - c.width)) ∧
          ∀ c ∈ held, 0 < c.width → (∃ d ∈ cells, (d.state = .released ∨ d.state = .printed) ∧ 0 < d.width ∧
            c.start < d.start + d.width ∧ d.start < c.start + c.width) → c.overstrike = true)) ∧
      OfferOk t ∧ Frame [.links, .dispatch, .correction, .lines, .composer, .spelling, .notices] s t)

/-- HOME orders (R107, R108): FORCE_HOME appends one and answers its serial, or FULL; SET_HOME_INTERVAL writes the interval and
starts the count; a HOME held for the next free place takes it. That FORCE_HOME finds no place while a HOME is held, however
many are free, is notes/assumptions/11.md; that the row of the count's expiry acts on a count standing at 0 under an interval
alone, making a HOME due and reloading the count, notes/assumptions/10.md. -/
def Obligations.HomeOrders : Prop :=
  (∀ st s, Ready .forceHome st [] s →
    (s.dispatch.homeHeld ≠ none ∨ 32 ≤ s.dispatch.orders.length →
      ∃ t, Machine.exec (.forceHome st []) s = .next t ∧ Refused st .full s t) ∧
    (s.dispatch.homeHeld = none → s.dispatch.orders.length < 32 → ∃ t, Machine.exec (.forceHome st []) s = .next t ∧
      (∀ o, s.dispatch.orders.getLast? = some o → Yields st ⟨.ok, [nextSerial s]⟩
        (judge (appendJob (Job.plain .home o.job.target .keyboard none) s)) s t) ∧
      (s.dispatch.orders = [] → Yields st ⟨.ok, [nextSerial s]⟩
        (judge (appendJob (Job.plain .home s.dispatch.c .keyboard none) s)) s t))) ∧
  (∀ st (n : Byte) s, Ready .setHomeInterval st [n] s → ∃ t, Machine.exec (.setHomeInterval st [n]) s = .next t ∧
    Yields st ⟨.ok, []⟩ { s with dispatch := { s.dispatch with
      homeInterval := n.toNat, homeCount := n.toNat * 100 } } s t) ∧
  ∀ s, s.resetHeld = false →
    (∀ x, s.dispatch.homeHeld = some x → s.dispatch.orders.length < 32 → ∃ t, Machine.exec .homeAppend s = .next t ∧
      Becomes (judge (appendJob (Job.plain .home x .automatic none)
        { s with dispatch := { s.dispatch with homeDue := false, homeHeld := none } })) t) ∧
    (s.dispatch.homeHeld = none ∨ 32 ≤ s.dispatch.orders.length →
      ∃ t, Machine.exec .homeAppend s = .next t ∧ Becomes s t) ∧
    (s.dispatch.homeInterval ≠ 0 → s.dispatch.homeCount = 0 → ∃ t, Machine.exec .homeCountExpiry s = .next t ∧
      Becomes { s with dispatch := { s.dispatch with
        homeCount := s.dispatch.homeInterval * 100, homeDue := true } } t) ∧
    (s.dispatch.homeInterval = 0 ∨ s.dispatch.homeCount ≠ 0 →
      ∃ t, Machine.exec .homeCountExpiry s = .next t ∧ Becomes s t)

/-- CANCEL_LIFTS (R140) removes every PENDING LIFT from the queue and every LIFT from the held list, answers how many, and leaves
the other orders in their order. P is not moved back. The records these LIFTs were linked to stand again. A MOVE left in the held
list is appended when a place is free, and otherwise goes on waiting; that it merges into a PENDING MOVE at the tail, should one
stand there, is the model's reading (notes/assumptions/48.md). Each LIFTING cell is judged by R137: one with a FETCHED LIFT stays,
one with records left leaves LIFTING, one with nothing left is removed; that one with no record but a STRIKE in the queue leaves
LIFTING is the model's reading (notes/assumptions/19.md). A waiting order of a correction is appended when a place is free (R135).
It finds none while a HOME is held (R107; notes/assumptions/11.md); a count above 255 has no byte in the answer, which then is a
free value (notes/assumptions/17.md). -/
def Obligations.CancelLiftsAndWaitingOrders : Prop :=
  (∀ st s, Ready .cancelLifts st [] s →
    let lift := fun o : Order => o.fetched = false ∧ o.job.kind = .lift
    let removed := (s.dispatch.orders.filter lift).map (·.job) ++ s.correction.held.filter (·.kind = .lift)
    let kept := s.dispatch.orders.filter (¬ lift ·)
    let waiting := s.correction.held.filter (·.kind ≠ .lift)
    let stands := fun r : StrikeRecord =>
      if ∃ j ∈ removed, j.recordId = some r.id then { r with pending := false } else r
    let full := s.dispatch.homeHeld ≠ none ∨ 32 ≤ kept.length
    ∃ t, Machine.exec (.cancelLifts st []) s = .next t ∧ Answered st ⟨.ok, [countByte removed.length]⟩ s t ∧
      t.correction.wrongWheel = none ∧ t.composer.p = s.composer.p ∧
      (waiting = [] ∨ full → t.dispatch.orders = kept ∧ t.correction.held = waiting ∧
        t.correction.memory = s.correction.memory.map stands) ∧
      (∀ j js, waiting = j :: js → ¬ full → j.kind = .move → t.correction.held = js ∧
        let u := makeMove j.target j.source { s with
          dispatch := { s.dispatch with orders := kept }
          correction := { s.correction with held := js, memory := s.correction.memory.map stands } }
        t.dispatch.orders = u.dispatch.orders ∧ t.correction.memory = u.correction.memory) ∧
      (((allCells s).map (·.id)).Nodup → ∀ c ∈ allCells s,
        let lifts := (∃ o ∈ t.dispatch.orders, o.job.kind = .lift ∧ o.job.cell = some c.id) ∨
          ∃ j ∈ t.correction.held, j.kind = .lift ∧ j.cell = some c.id
        let strikes := (∃ o ∈ t.dispatch.orders, o.job.kind = .strike ∧ o.job.cell = some c.id) ∨
          ∃ r ∈ t.correction.memory, r.cell = some c.id
        (c.state ≠ .lifting ∨ lifts ∨ strikes → ∃ d ∈ allCells t, d.id = c.id ∧ d.code = c.code ∧ d.start = c.start ∧
          d.width = c.width ∧ d.outstanding = c.outstanding ∧
          (c.state = .printed ∨ c.state = .released ∨ c.state = .lifting ∧ lifts → d.state = c.state) ∧
          (c.state = .lifting → ¬ lifts → d.state = if c.outstanding = 0 then .printed else .released)) ∧
        (c.state = .lifting → ¬ lifts → ¬ strikes → ∀ d ∈ allCells t, d.id ≠ c.id)) ∧
      OfferOk t ∧ Frame [.links, .dispatch, .correction, .lines, .composer, .spelling, .notices] s t) ∧
  ∀ s, s.resetHeld = false →
    (s.correction.held = [] ∨ s.dispatch.homeHeld ≠ none ∨ 32 ≤ s.dispatch.orders.length →
      ∃ t, Machine.exec .heldOrderAppend s = .next t ∧ Becomes s t) ∧
    ∀ j js, s.correction.held = j :: js → s.dispatch.homeHeld = none → s.dispatch.orders.length < 32 →
      ∃ t, Machine.exec .heldOrderAppend s = .next t ∧
        (j.kind ≠ .move → Becomes (judge (appendJob j { s with correction := { s.correction with held := js } })) t) ∧
        (j.kind = .move →
          Becomes (judge (makeMove j.target j.source { s with correction := { s.correction with held := js } })) t)

/-! ## Energy -/

/-- SET_ENERGY (R111): checked whole, each number brought into its range; a written capacity lowers the level and the costs of
PENDING orders that exceed it (R120). REFILL_EXPIRY raises the level by the refill amount, to the capacity at most (R117).
That the form of the request is checked before its values is notes/assumptions/46.md. -/
def Obligations.EnergySettingsAndRefill : Prop :=
  (∀ st payload s, Ready .setEnergy st payload s →
    (settingFields [1, 1, 1, 1, 1, 1, 1, 1, 1, 1] payload = none →
      ∃ t, Machine.exec (.setEnergy st payload) s = .next t ∧ Refused st .badRequest s t) ∧
    ∀ fs, settingFields [1, 1, 1, 1, 1, 1, 1, 1, 1, 1] payload = some fs →
      (¬ (atMost fs 8 1 ∧ atMost fs 9 2) → ∃ t, Machine.exec (.setEnergy st payload) s = .next t ∧
        Refused st .badValue s t) ∧
      (atMost fs 8 1 → atMost fs 9 2 → ∃ t status, Machine.exec (.setEnergy st payload) s = .next t ∧
        Answered st ⟨status, []⟩ s t ∧
        (let clamps := exceeds fs 0 16 255 ∨ exceeds fs 1 1 15 ∨ exceeds fs 2 1 15 ∨ exceeds fs 3 1 15 ∨ exceeds fs 4 1 15 ∨
            exceeds fs 5 0 15 ∨ exceeds fs 6 0 1 ∨ exceeds fs 7 1 15
         status = .clamped ∧ clamps ∨ status = .ok ∧ ¬ clamps) ∧
        t.energy.capacity = writtenIn fs 0 16 255 s.energy.capacity ∧ t.energy.cost1 = writtenIn fs 1 1 15 s.energy.cost1 ∧
        t.energy.cost2 = writtenIn fs 2 1 15 s.energy.cost2 ∧ t.energy.cost3 = writtenIn fs 3 1 15 s.energy.cost3 ∧
        t.energy.cost4 = writtenIn fs 4 1 15 s.energy.cost4 ∧ t.energy.surcharge = writtenIn fs 5 0 15 s.energy.surcharge ∧
        t.energy.boost = writtenIn fs 6 0 1 s.energy.boost ∧ t.energy.refill = writtenIn fs 7 1 15 s.energy.refill ∧
        bit t.energy.travelCharge = written fs 8 (bit s.energy.travelCharge) ∧
        t.energy.impression.number = written fs 9 s.energy.impression.number ∧
        t.energy.refillRunning = s.energy.refillRunning ∧
        (field fs 0 = none → t.energy.level = s.energy.level ∧ Frame [.links, .energy] s t) ∧
        (field fs 0 ≠ none → t.energy.level = min s.energy.level t.energy.capacity ∧
          t.dispatch.orders = s.dispatch.orders.map (fun o =>
            if o.fetched = true then o else { o with cost := min o.cost t.energy.capacity }) ∧
          t.dispatch = { s.dispatch with orders := t.dispatch.orders, offerable := isOfferable t } ∧
          Frame [.links, .energy, .dispatch, .correction, .notices] s t))) ∧
  ∀ s, s.resetHeld = false → EnergyOk s.energy → s.energy.refillRunning = true →
    (s.energy.level < s.energy.capacity → ∃ t, Machine.exec .refillExpiry s = .next t ∧
      Becomes (judge { s with energy := { s.energy with
        level := min s.energy.capacity (s.energy.level + s.energy.refill) } }) t) ∧
    (s.energy.level = s.energy.capacity → ∃ t, Machine.exec .refillExpiry s = .next t ∧ Becomes s t)

/-! ## Spelling unit and dictionary port -/

/-- SET_SPELLING (R154) and SET_SKIP_RULE (R146): checked whole; a write of the enable starts the dictionary afresh or turns it
off, the transfer in progress then being discarded; a rule's lengths are brought into 1 to 24, and a maximum below the
minimum is refused. That the form is checked before the values is notes/assumptions/46.md. Which words an enabled rule matches,
by length and by the case pattern of their letters (R146). How a word is captured (R149): too short, too long or skipped, without
a ticket; otherwise folded (R147; a code of another class stays itself, notes/assumptions/41.md), with the first ticket number
free from the counter on (R148), KNOWN by the user word table, UNCHECKED without a dictionary, or queued and CHECKING; where the
queue is full, UNCHECKED in DIRECT composition, counted, and in the others not captured. -/
def Obligations.SpellingSettings : Prop :=
  (∀ s codes,
    let letters := codes.filter fun c => classOf s c = .letter
    let capital := fun c : Code => (classEntry s c).fold ≠ c
    let initial := ∃ c rest, letters = c :: rest ∧ capital c ∧ ∀ d ∈ rest, ¬ capital d
    hasPattern s codes .any = true ∧ (hasPattern s codes .allCapitals = true ↔ ∀ c ∈ letters, capital c) ∧
    (hasPattern s codes .initialCapital = true ↔ initial) ∧
    (hasPattern s codes .mixed = true ↔ (∃ c ∈ letters, capital c) ∧ (∃ c ∈ letters, ¬ capital c) ∧ ¬ initial) ∧
    (isSkipped s codes = true ↔ ∃ r ∈ s.spelling.skipRules, r.enabled = true ∧
      (r.invert = true ↔ ¬ (r.minLen ≤ codes.length ∧ codes.length ≤ r.maxLen ∧ hasPattern s codes r.pattern = true)))) ∧
  (∀ s, (∃ k, ticketInUse s k = false) → ∃ i, i < 256 ∧ nextTicket s = s.spelling.ticketCounter + byte i ∧
    ticketInUse s (nextTicket s) = false ∧ ∀ k, k < i → ticketInUse s (s.spelling.ticketCounter + byte k) = true) ∧
  (∀ s n, ticketInUse s n = true ↔ (∃ c ∈ allCells s, c.ticket = some n) ∨ ∃ e ∈ s.spelling.queue, e.ticket = n) ∧
  (∀ (ids : List Nat) m s,
    let cells := s.lines.current.cells.filter fun c => ids.contains c.id
    let codes := cells.map (·.code)
    let n := nextTicket s
    let folded := codes.map fun c => match classOf s c with
      | .letter => (classEntry s c).fold
      | .apostrophe => 0x27
      | _ => c
    let source := (cells.head?.map (·.source)).getD .keyboard
    let marks := fun (mark : SpellMark) (ticket : Option Byte) (t : State) =>
      t.lines = (mapCells (fun c => ids.contains c.id)
        (fun c => { c with mark := mark, ticket := ticket, word := some s.composer.nextWord }) s).lines ∧
      t.composer = { s.composer with nextWord := s.composer.nextWord + 1 } ∧ Frame [.lines, .composer, .spelling] s t
    let passes := codes.length ≤ 1 ∨ 24 < codes.length ∨ isSkipped s codes = true
    let ticketed := fun (mark : SpellMark) (queue : List SpellEntry) (overflow : Nat) => ∃ t, capture ids m s = some t ∧
      marks mark (some n) t ∧ ticketRecord t n = some ⟨n, folded, source, false⟩ ∧
      (∀ k, k ≠ n → ticketRecord t k = ticketRecord s k) ∧ t.spelling = { s.spelling with
        tickets := t.spelling.tickets, ticketCounter := n + 1, queue := queue, overflow := overflow }
    let queue := s.spelling.queue
    (passes → ∃ t, capture ids m s = some t ∧ marks .skipped none t ∧ t.spelling = s.spelling) ∧
    (¬ passes → folded ∈ s.spelling.userWords → ticketed .known queue s.spelling.overflow) ∧
    (¬ passes → folded ∉ s.spelling.userWords → s.spelling.dictState = .off ∨ s.spelling.dictState = .unavailable →
      ticketed .unchecked queue s.spelling.overflow) ∧
    (¬ passes → folded ∉ s.spelling.userWords → s.spelling.dictState ≠ .off → s.spelling.dictState ≠ .unavailable →
      (queue.length < 8 → ticketed .checking (queue ++ [⟨n, false⟩]) s.spelling.overflow) ∧
      (8 ≤ queue.length → m = .direct → ticketed .unchecked queue (min 255 (s.spelling.overflow + 1))) ∧
      (8 ≤ queue.length → m ≠ .direct → capture ids m s = none))) ∧
  (∀ st payload s, Ready .setSpelling st payload s →
    (settingFields [1, 1, 1, 1, 1] payload = none →
      ∃ t, Machine.exec (.setSpelling st payload) s = .next t ∧ Refused st .badRequest s t) ∧
    ∀ fs, settingFields [1, 1, 1, 1, 1] payload = some fs →
      let valid := atMost fs 0 2 ∧ atMost fs 1 2 ∧ atMost fs 2 1 ∧ atMost fs 3 2 ∧
        ∀ v, field fs 4 = some v → 0x08 ≤ v ∧ v ≤ 0x77
      (¬ valid → ∃ t, Machine.exec (.setSpelling st payload) s = .next t ∧ Refused st .badValue s t) ∧
      (valid → ∃ t, Machine.exec (.setSpelling st payload) s = .next t ∧ Answered st ⟨.ok, []⟩ s t ∧
        t.spelling.kbUnknown.number = written fs 0 s.spelling.kbUnknown.number ∧
        t.spelling.ifUnknown.number = written fs 1 s.spelling.ifUnknown.number ∧
        bit t.spelling.enable = written fs 2 (bit s.spelling.enable) ∧
        t.spelling.rate.number = written fs 3 s.spelling.rate.number ∧
        t.spelling.device = written fs 4 s.spelling.device ∧
        t.spelling =
          { s.spelling with
            kbUnknown := t.spelling.kbUnknown, ifUnknown := t.spelling.ifUnknown, enable := t.spelling.enable,
            rate := t.spelling.rate, device := t.spelling.device, dictState := t.spelling.dictState,
            port := t.spelling.port, queue := t.spelling.queue } ∧
        (field fs 2 = none ∨ field fs 2 = some 1 ∧ s.spelling.dictState = .readingHeader →
          t.spelling.dictState = s.spelling.dictState ∧ t.spelling.port = s.spelling.port ∧
          t.spelling.queue = s.spelling.queue ∧ t.lines = s.lines) ∧
        (field fs 2 = some 1 → s.spelling.dictState ≠ .readingHeader →
          t.spelling.dictState = .readingHeader ∧
          t.spelling.port = s.spelling.port.map (fun x => { x with discard := true }) ∧
          t.spelling.queue = s.spelling.queue ∧ t.lines = s.lines) ∧
        (field fs 2 = some 0 → t.spelling.dictState = .off ∧
          t.spelling.port = s.spelling.port.map (fun x => { x with discard := true }) ∧
          (let live := (s.spelling.queue.filter fun e => !(e.looking && isCancelled s e.ticket)).map (·.ticket)
           t.spelling.queue = s.spelling.queue.filter (!live.contains ·.ticket) ∧
           t.lines = (mapCells (fun c => c.ticket.any (live.contains ·)) (fun c => { c with mark := .unchecked }) s).lines)) ∧
        Frame [.links, .spelling, .lines] s t)) ∧
  ∀ st (n : Byte) rest s, Ready .setSkipRule st (n :: rest) s →
    (settingFields [1, 1, 1, 1, 1] rest = none →
      ∃ t, Machine.exec (.setSkipRule st (n :: rest)) s = .next t ∧ Refused st .badRequest s t) ∧
    ∀ fs, settingFields [1, 1, 1, 1, 1] rest = some fs →
      (3 < n.toNat ∨ ¬ (atMost fs 0 1 ∧ atMost fs 3 3 ∧ atMost fs 4 1) →
        ∃ t, Machine.exec (.setSkipRule st (n :: rest)) s = .next t ∧ Refused st .badValue s t) ∧
      ∀ r, s.spelling.skipRules[n.toNat]? = some r → n.toNat ≤ 3 → atMost fs 0 1 → atMost fs 3 3 → atMost fs 4 1 →
        let lo := writtenIn fs 1 1 24 r.minLen
        let hi := writtenIn fs 2 1 24 r.maxLen
        (hi < lo → ∃ t, Machine.exec (.setSkipRule st (n :: rest)) s = .next t ∧ Refused st .badValue s t) ∧
        (lo ≤ hi → ∃ t status r', Machine.exec (.setSkipRule st (n :: rest)) s = .next t ∧
          (status = .clamped ∧ (exceeds fs 1 1 24 ∨ exceeds fs 2 1 24) ∨
            status = .ok ∧ ¬ (exceeds fs 1 1 24 ∨ exceeds fs 2 1 24)) ∧
          bit r'.enabled = written fs 0 (bit r.enabled) ∧ r'.minLen = lo ∧ r'.maxLen = hi ∧
          r'.pattern.number = written fs 3 r.pattern.number ∧ bit r'.invert = written fs 4 (bit r.invert) ∧
          Yields st ⟨status, []⟩ { s with spelling := { s.spelling with
            skipRules := s.spelling.skipRules.set n.toNat r' } } s t)

/-! ## Laws 4, 8 and 9 -/

/-- Law 4: every order target, cell start, strike record position, P and C lies between 0 and 1559, and a step keeps it so from
wheel tables and settings within their ranges (R18, R29; a position past 1559 is brought to it, notes/assumptions/39.md). No
PENDING order carries a cost that the bucket cannot hold (R118, R120; a returned order's is limited, notes/assumptions/38.md).
Law 8: a held cell has no order and no strike record (R61). Law 9: each strike record names a cell of the current or outgoing
line in state PRINTED, RELEASED or LIFTING (R137). The last two are kept together with what they rest on: the model's cell ids
(R60), serials (R88), the line holder (R44), the links of the LIFTs (R86, R134), a LINE line of held cells (R77), and the RETURN
order of the outgoing line behind the strikes of its cells (R83). -/
def Obligations.EveryStepKeepsPositionsAndReferences : Prop :=
  Kept (fun s => SettingsOk s.settings ∧ WheelsOk s.wheels ∧ PositionsOk s) ∧ Kept CostsOk ∧
    Kept (fun s => SerialsOk s ∧ HolderOk s ∧ ReferencesOk s)

/-! ## Spelling answers, lookups and the dictionary -/

/-- ADD_WORD and REMOVE_WORD (R150): 2 to 24 letters and apostrophes, a letter at each end, no two apostrophes side by side, make
a word; its folded form, each apostrophe 0x27 (R147), comes in at the end of the user word table, once, or is taken out of it.
SPELL_ANSWER (R164): STALE for a ticket that no cell carries, NOT NOW while its word is CHECKING; ACCEPT marks the cells ACCEPTED
and returns those in SPELL HOLD to HELD; ADD does so after adding the word to the user word table, or is answered FULL; REJECT
returns a word in SPELL HOLD to HELD, and is answered NOT NOW for any other; any other choice is BAD VALUE, whose row is
notes/assumptions/1.md, and comes before the ticket, 46.md. A ticket cancelled (R159): its cells lose it and the mark, those in
SPELL HOLD return to HELD, and it leaves the queue, or, when LOOKING UP, is marked cancelled. The removal of a cell, which takes
it out of its line, the groups and a group being issued and leaves the other cells as they were, cancels its ticket, so does
LIFTING, and in LINE composition the ticket of a word that is no longer exactly a run goes. So at the release of a LINE line that
drops cells not on the wheel (R30): every word that loses a cell or is no longer exactly a run loses its ticket and mark, the
others keep theirs; that the runs are those of the widths taken at the release, and that the release examines no run of the
carried cells, is the model's reading (notes/assumptions/55.md). The open word loses the cells that are gone, and what remains of
a cancelled word becomes the open word again (R160): all of those cells, but that an APOSTROPHE left at the end becomes the
pending apostrophe and cells without a LETTER make no open word. That an APOSTROPHE left at the front goes (R144), that the first
of several at the end is the one that is pending, and that the class table is read as it stands, is the model's reading
(notes/assumptions/24.md). -/
def Obligations.SpellAnswers : Prop :=
  (∀ st (codes : List Byte) s,
    let letter := fun i : Nat => ∃ c, codes[i]? = some c ∧ classOf s c = .letter
    let apostrophe := fun i : Nat => ∃ c, codes[i]? = some c ∧ classOf s c = .apostrophe
    let word := 2 ≤ codes.length ∧ codes.length ≤ 24 ∧ (∀ i, i < codes.length → letter i ∨ apostrophe i) ∧ letter 0 ∧
      letter (codes.length - 1) ∧ ∀ i, ¬ (apostrophe i ∧ apostrophe (i + 1))
    let folded := codes.map fun c => if classOf s c = .letter then (classEntry s c).fold else 0x27
    (Ready .addWord st codes s →
      (¬ word → ∃ t, Machine.exec (.addWord st codes) s = .next t ∧ Refused st .badValue s t) ∧
      (word → folded ∈ s.spelling.userWords → ∃ t, Machine.exec (.addWord st codes) s = .next t ∧
        Yields st ⟨.ok, []⟩ s s t) ∧
      (word → folded ∉ s.spelling.userWords → 128 ≤ s.spelling.userWords.length →
        ∃ t, Machine.exec (.addWord st codes) s = .next t ∧ Refused st .full s t) ∧
      (word → folded ∉ s.spelling.userWords → s.spelling.userWords.length < 128 →
        ∃ t, Machine.exec (.addWord st codes) s = .next t ∧ Yields st ⟨.ok, []⟩
          { s with spelling := { s.spelling with userWords := s.spelling.userWords ++ [folded] } } s t)) ∧
    (Ready .removeWord st codes s →
      (¬ word → ∃ t, Machine.exec (.removeWord st codes) s = .next t ∧ Refused st .badValue s t) ∧
      (word → folded ∉ s.spelling.userWords → ∃ t, Machine.exec (.removeWord st codes) s = .next t ∧
        Refused st .none_ s t) ∧
      (word → folded ∈ s.spelling.userWords → ∃ t, Machine.exec (.removeWord st codes) s = .next t ∧
        Yields st ⟨.ok, []⟩ { s with spelling := { s.spelling with
          userWords := s.spelling.userWords.filter (· ≠ folded) } } s t))) ∧
  (∀ n s,
    let u := cancelTicket n s
    let looking := ∃ e ∈ s.spelling.queue, e.ticket = n ∧ e.looking = true
    u.lines = (mapCells (·.ticket = some n) (fun c =>
      { c with ticket := none, word := none, mark := .none,
               state := if c.state = .spellHold then .held else c.state }) s).lines ∧
    (looking → u.spelling.queue = s.spelling.queue ∧
      ∀ r, ticketRecord s n = some r → ticketRecord u n = some { r with cancelled := true }) ∧
    (¬ looking → u.spelling.queue = s.spelling.queue.filter (·.ticket ≠ n) ∧ ticketRecord u n = none) ∧
    (∀ k, k ≠ n → ticketRecord u k = ticketRecord s k) ∧ Frame [.lines, .spelling] s u) ∧
  (∀ (ids : List Nat) s, (∀ d ∈ allCells (dropCells ids s), d.id ∉ ids) ∧
    ∀ c ∈ allCells s, c.id ∈ ids → ∀ n, c.ticket = some n → ∀ d ∈ allCells (dropCells ids s), d.ticket ≠ some n) ∧
  (∀ (ids : List Nat) s,
    let gone := (allCells s).filter (·.id ∈ ids)
    let tickets := (gone.filterMap (·.ticket)).dedup
    let words := tickets.map fun n => ((allCells s).filter (·.ticket = some n)).map (·.id)
    let left := fun l : Line => ({ l with cells := (l.cells.filter (·.id ∉ ids)).map (uncaptured gone) } : Line)
    let stay := fun g : List Nat => g.filter (· ∉ ids)
    let v := { s with
      lines := { current := left s.lines.current, outgoing := s.lines.outgoing.map left }
      composer := { s.composer with
        openGroup := stay s.composer.openGroup
        closedGroups := (s.composer.closedGroups.map stay).filter (· ≠ [])
        issue := s.composer.issue.map fun g => { g with left := stay g.left } }
      spelling := (tickets.foldl (fun t n => cancelTicket n t) s).spelling }
    dropCells ids s = words.foldl recapture (pruneOpenWord v)) ∧
  (∀ (tickets : List Byte) s,
    let words := tickets.map fun n => ((allCells s).filter (·.ticket = some n)).map (·.id)
    let lost := (allCells s).filter fun c => ∃ n ∈ tickets, c.ticket = some n
    let left := fun l : Line => ({ l with cells := l.cells.map (uncaptured lost) } : Line)
    cancelTickets tickets s = words.foldl recapture (pruneOpenWord { s with
      lines := { current := left s.lines.current, outgoing := s.lines.outgoing.map left }
      spelling := (tickets.foldl (fun t n => cancelTicket n t) s).spelling })) ∧
  (∀ targets s, ∀ c ∈ processed targets, cellLifts s c ≠ [] →
    ∀ d ∈ allCells (withdrawStrikes targets s), d.id = c.id → d.state = .lifting ∧ d.ticket = none) ∧
  (∀ s n,
    let cells := s.lines.current.cells
    let whole := ∃ r ∈ runs (classOf s) cells, r.map (·.id) = (cells.filter (·.ticket = some n)).map (·.id)
    (¬ whole → ∀ d ∈ (cancelBroken s).lines.current.cells, d.ticket ≠ some n) ∧
    (whole → ((cancelBroken s).lines.current.cells.filter (·.ticket = some n)).map (fun d => (d.id, d.mark)) =
      (cells.filter (·.ticket = some n)).map (fun c => (c.id, c.mark)))) ∧
  (∀ src t v,
    let u := takeHead src v
    let cells := u.lines.current.cells
    let gone := cells.filter fun c => t.has c.code = false
    let kept := (cells.filter fun c => t.has c.code = true).map fun c => { c with width := t.width (effectivePitch v) c.code }
    let whole := fun n : Byte => (∀ c ∈ gone, c.ticket ≠ some n) ∧
      ∃ r ∈ runs (classOf v) kept, r.map (·.id) = (kept.filter (·.ticket = some n)).map (·.id)
    let x := releaseLine src t v
    ((allCells u).map (·.id)).Nodup → ∀ c ∈ cells, ∀ d ∈ allCells x, d.id = c.id →
      (gone = [] ∨ (∀ n, c.ticket = some n → whole n) → d.ticket = c.ticket ∧ d.mark = c.mark ∧ d.state = c.state) ∧
      ∀ n, gone ≠ [] → c.ticket = some n → ¬ whole n →
        d.ticket = none ∧ d.mark = .none ∧ d.state = if c.state = .spellHold then .held else c.state) ∧
  (∀ s before word after pending, (∀ c ∈ before ++ after, classOf s c.code = .apostrophe) →
    (∀ c, word.head? = some c → classOf s c.code ≠ .apostrophe) →
    (∀ c, word.getLast? = some c → classOf s c.code ≠ .apostrophe) →
    ((∃ c ∈ word, classOf s c.code = .letter) → trimWord s (before ++ word ++ after) pending =
      (word.map (·.id), if after = [] then pending else after.head?.map (·.id))) ∧
    ((∀ c ∈ word, classOf s c.code ≠ .letter) → trimWord s (before ++ word ++ after) pending = ([], none))) ∧
  (∀ s,
    let live := s.lines.current.cells.filter (·.state ≠ .lifting)
    let stays := fun id : Nat => ∃ c ∈ live, c.id = id
    let p := s.spelling
    let whole := (∀ id ∈ p.openWord, stays id) ∧ ∀ id, p.pendingApos = some id → stays id
    (whole → pruneOpenWord s = s) ∧
    (∀ pending, ¬ whole → (∀ id, pending = some id ↔ p.pendingApos = some id ∧ stays id) →
      pruneOpenWord s = setOpenWord (trimWord s (live.filter fun c => c.id ∈ p.openWord) pending) s) ∧
    ∀ id ∈ (pruneOpenWord s).spelling.openWord ++ (pruneOpenWord s).spelling.pendingApos.toList,
      ∃ c ∈ s.lines.current.cells, c.id = id ∧ c.state ≠ .lifting) ∧
  (∀ s (ids : List Nat),
    let live := s.lines.current.cells.filter (·.state ≠ .lifting)
    let left := live.filter fun c => ids.contains c.id
    let again := s.lines.current.composition ≠ some .line ∧
      (s.lines.current.composition = some .word → ∀ c ∈ left, c.state = .held) ∧ s.spelling.openWord = [] ∧
      s.spelling.pendingApos = none ∧ ∃ c, live.getLast? = some c ∧ c.id ∈ left.map (·.id)
    (¬ again → recapture s ids = s) ∧
    (again → recapture s ids = { s with spelling := { s.spelling with
      openWord := (trimWord s left none).1, pendingApos := (trimWord s left none).2 } })) ∧
  (∀ st (n choice : Byte) s, 2 < choice.toNat → Ready .spellAnswer st [n, choice] s →
    rowOfCode st ReqKind.spellAnswer.code [n, choice] = .spellAnswerAccept st [n, choice] ∧
    ∃ t, Machine.exec (.spellAnswerAccept st [n, choice]) s = .next t ∧ Refused st .badValue s t) ∧
  ∀ st (n choice : Byte) c s, Ready .spellAnswer st [n, choice] s →
    (choice = 0 ∧ c = Instr.spellAnswerAccept st [n, choice] ∨ choice = 1 ∧ c = Instr.spellAnswerAdd st [n, choice] ∨
      choice = 2 ∧ c = Instr.spellAnswerReject st [n, choice]) →
    ((∀ x ∈ allCells s, x.ticket ≠ some n) → ∃ t, Machine.exec c s = .next t ∧ Refused st .stale s t) ∧
    ((∃ x ∈ allCells s, x.ticket = some n ∧ x.mark = .checking) →
      ∃ t, Machine.exec c s = .next t ∧ Refused st .notNow s t) ∧
    ((∃ x ∈ allCells s, x.ticket = some n) → (∀ x ∈ allCells s, x.ticket = some n → x.mark ≠ .checking) →
      let accepted := (mapCells (·.ticket = some n) (fun x =>
        { x with mark := .accepted, state := if x.state = .spellHold then .held else x.state }) s).lines
      (choice = 0 → ∃ t, Machine.exec c s = .next t ∧ Yields st ⟨.ok, []⟩ { s with lines := accepted } s t) ∧
      (∀ r, choice = 1 → ticketRecord s n = some r →
        (r.word ∈ s.spelling.userWords → ∃ t, Machine.exec c s = .next t ∧
          Yields st ⟨.ok, []⟩ { s with lines := accepted } s t) ∧
        (r.word ∉ s.spelling.userWords → 128 ≤ s.spelling.userWords.length →
          ∃ t, Machine.exec c s = .next t ∧ Refused st .full s t) ∧
        (r.word ∉ s.spelling.userWords → s.spelling.userWords.length < 128 → ∃ t, Machine.exec c s = .next t ∧
          Yields st ⟨.ok, []⟩ { s with
            lines := accepted
            spelling := { s.spelling with userWords := s.spelling.userWords ++ [r.word] } } s t)) ∧
      (choice = 2 → (∃ x ∈ allCells s, x.ticket = some n ∧ x.state = .spellHold) → ∃ t, Machine.exec c s = .next t ∧
        Yields st ⟨.ok, []⟩ { s with lines := (mapCells (fun x => x.ticket = some n && x.state = .spellHold)
          (fun x => { x with state := .held }) s).lines } s t) ∧
      (choice = 2 → (∀ x ∈ allCells s, x.ticket = some n → x.state ≠ .spellHold) →
        ∃ t, Machine.exec c s = .next t ∧ Refused st .notNow s t))

/-- The header transfer (R153) begins while READING HEADER with the port free; at its end a missing acknowledge, a wrong signature
and a bucket count that is no power of two from 64 to 4096 make the dictionary UNAVAILABLE, and a header in order makes it
AVAILABLE. A lookup (R155, R156): the oldest WAITING ticket becomes LOOKING UP and its directory entry is read, found by the
word's hash modulo the bucket count (R147); its end opens the bucket's body, or is an outcome: UNKNOWN for an empty bucket,
UNCHECKED for addresses out of order, above 524288 or more than 2048 apart. A discarded result has no outcome; that a missing
acknowledge in a discarded or cancelled transfer leaves the dictionary's state too is notes/assumptions/23.md (R154, R159). Bytes
beyond a transfer's length are not looked at (notes/assumptions/9.md); the reasons' numbers are notes/assumptions/28.md.
A transfer byte by byte (R152): start, device address byte for writing, three address bytes, most significant first, repeated
start, device address byte for reading, the data bytes, each acknowledged but the last, stop; each byte's bits, most significant
first, then the acknowledge, low; a missing acknowledge brings the stop at once. The place of the direction bit and its polarity
are presumed (notes/assumptions/50.md). -/
def Obligations.HeaderAndDirectoryTransfers : Prop :=
  (∀ b acknowledged, (levels b acknowledged).length = 9 ∧ (levels b acknowledged)[8]? = some (!acknowledged) ∧
    ∀ i, i < 8 → (levels b acknowledged)[i]? = some (b.toNat.testBit (7 - i))) ∧
  (∀ x : Transfer, x.device < 128 → x.address < 16777216 → ∃ w a2 a1 a0 r : Byte,
    w.toNat = 2 * x.device ∧ r.toNat = 2 * x.device + 1 ∧ a2.toNat * 65536 + a1.toNat * 256 + a0.toNat = x.address ∧
    unansweredTransfer x 0 = [.start, .sent w false, .stop] ∧
    unansweredTransfer x 1 = [.start, .sent w true, .sent a2 false, .stop] ∧
    unansweredTransfer x 2 = [.start, .sent w true, .sent a2 true, .sent a1 false, .stop] ∧
    unansweredTransfer x 3 = [.start, .sent w true, .sent a2 true, .sent a1 true, .sent a0 false, .stop] ∧
    (let begun := [.start, .sent w true, .sent a2 true, .sent a1 true, .sent a0 true, .start]
     unansweredTransfer x 4 = begun ++ [.sent r false, .stop] ∧
     ∀ memory bs b, dataBytes x memory = bs ++ [b] → answeredTransfer x memory =
       begun ++ [.sent r true] ++ bs.map (.received · true) ++ [.received b false, .stop])) ∧
  (∀ (x : Transfer) memory, (∀ n word p, x.kind ≠ .body n word p) → dataBytes x memory = memory.take x.length) ∧
  (∀ s n r, ticketRecord s n = some r → lookupWord s n = r.word) ∧
  (∀ s, s.resetHeld = false →
    (s.spelling.dictState = .readingHeader → s.spelling.port = none → ∃ t, Machine.exec .headerTransferStart s = .next t ∧
      Becomes { s with spelling := { s.spelling with
        port := some ⟨.header, 0, 8, s.spelling.rate, s.spelling.device, false⟩ } } t) ∧
    (s.spelling.dictState ≠ .readingHeader ∨ s.spelling.port ≠ none →
      ∃ t, Machine.exec .headerTransferStart s = .next t ∧ Becomes s t) ∧
    (∀ reply, (∀ x, s.spelling.port = some x → x.kind ≠ .header) →
      ∃ t, Machine.exec (.headerTransferEnd reply) s = .next t ∧ Becomes s t) ∧
    ∀ x, s.spelling.port = some x → x.kind = .header →
      (∃ t, Machine.exec (.headerTransferEnd .noAcknowledge) s = .next t ∧
        (x.discard = true → Becomes { s with spelling := { s.spelling with port := none } } t) ∧
        (x.discard = false → Becomes (unavailable 0 { s with spelling := { s.spelling with port := none } }) t)) ∧
      ∀ (a b c hi lo w2 w1 w0 : Byte) (more : List Byte),
        let bytes := [a, b, c, hi, lo, w2, w1, w0] ++ more
        let n := hi.toNat * 256 + lo.toNat
        ∃ t, Machine.exec (.headerTransferEnd (.data bytes)) s = .next t ∧
          (x.discard = true → Becomes { s with spelling := { s.spelling with port := none } } t) ∧
          (x.discard = false → ¬ (a = 0x46 ∧ b = 0x4B ∧ c = 1) →
            Becomes (unavailable 1 { s with spelling := { s.spelling with port := none } }) t) ∧
          (x.discard = false → a = 0x46 → b = 0x4B → c = 1 → n ∉ [64, 128, 256, 512, 1024, 2048, 4096] →
            Becomes (unavailable 2 { s with spelling := { s.spelling with port := none } }) t) ∧
          (x.discard = false → a = 0x46 → b = 0x4B → c = 1 → n ∈ [64, 128, 256, 512, 1024, 2048, 4096] →
            Becomes { s with spelling := { s.spelling with
              port := none, dictState := .available, bucketCount := some n
              wordCount := some (w2.toNat * 65536 + w1.toNat * 256 + w0.toNat) } } t)) ∧
  (∀ w : List Code, wordHash w = w.foldl (fun h c => (h * 31 + c.toNat) % 65536) w.length) ∧
  ∀ s, s.resetHeld = false →
    (∀ n e r after, s.spelling.dictState = .available → s.spelling.port = none → s.spelling.bucketCount = some n →
      s.spelling.queue = e :: after → e.looking = false → (∀ x ∈ after, x.looking = false) →
      (∀ x ∈ after, x.ticket ≠ e.ticket) → ticketRecord s e.ticket = some r →
      ∃ t, Machine.exec .lookupStart s = .next t ∧ Becomes { s with spelling := { s.spelling with
        queue := { e with looking := true } :: after
        port := some ⟨.directory e.ticket (wordHash r.word % n), 16 + 3 * (wordHash r.word % n), 6, s.spelling.rate,
          s.spelling.device, false⟩ } } t) ∧
    (s.spelling.dictState ≠ .available ∨ s.spelling.port ≠ none ∨ (∃ e ∈ s.spelling.queue, e.looking = true) ∨
        s.spelling.queue = [] → ∃ t, Machine.exec .lookupStart s = .next t ∧ Becomes s t) ∧
    (∀ reply, (∀ x n b, s.spelling.port = some x → x.kind ≠ .directory n b) →
      ∃ t, Machine.exec (.directoryTransferEnd reply) s = .next t ∧ Becomes s t) ∧
    ∀ x n bucket, s.spelling.port = some x → x.kind = .directory n bucket →
      let u : State := { s with spelling := { s.spelling with port := none } }
      (x.discard = true ∨ isCancelled s n = true →
        (∃ t, Machine.exec (.directoryTransferEnd .noAcknowledge) s = .next t ∧ Becomes (lookupDropped n u) t) ∧
        ∀ bs, 6 ≤ bs.length → ∃ t, Machine.exec (.directoryTransferEnd (.data bs)) s = .next t ∧
          Becomes (lookupDropped n u) t) ∧
      (x.discard = false → isCancelled s n = false →
        (∃ t, Machine.exec (.directoryTransferEnd .noAcknowledge) s = .next t ∧ Becomes (unavailable 0 (uncheck [n] u)) t) ∧
        ∀ bs, 6 ≤ bs.length → ∃ t, Machine.exec (.directoryTransferEnd (.data bs)) s = .next t ∧
          (let lo := num (bs.take 3)
           let hi := num ((bs.drop 3).take 3)
           (hi < lo ∨ 524288 < hi ∨ 2048 < hi - lo → Becomes (applyOutcome n .unchecked u) t) ∧
           (hi = lo → hi ≤ 524288 → Becomes (applyOutcome n .unknown u) t) ∧
           (lo < hi → hi ≤ 524288 → hi - lo ≤ 2048 → Becomes { s with spelling := { s.spelling with
             port := some ⟨.body n (lookupWord s n) ⟨hi - lo, none⟩, lo, min 128 (hi - lo), s.spelling.rate,
               s.spelling.device, false⟩ } } t)))

/-- A bucket's body (R157): a stored list of words in ascending order, read in transfers of at most 128 bytes, gives KNOWN to a
word it holds and UNKNOWN to any other; a length byte outside 2 to 24, or one that runs past the body's end, after smaller entries
gives UNCHECKED. A body transfer reads its bytes up to the one on which the outcome is reached, and no further. An outcome is
applied to the ticket (R158), and progress goes on to the next transfer. An outcome takes the ticket out of the queue and marks
its cells, UNKNOWN being KNOWN when the user word table holds the word; an UNKNOWN one is acted on by the policy of the word's
source (R161): a signal under SIGNAL and HOLD, and under HOLD the HELD cells of a WORD line go into SPELL HOLD (R162). The entry
into UNAVAILABLE marks the words WAITING UNCHECKED, with SPELL UNAVAILABLE (R153), whose reason for a missing acknowledge is
number 0 (notes/assumptions/28.md). A discarded lookup leaves the queue when cancelled and is WAITING again when not (R154, R159);
that a missing acknowledge then leaves the dictionary's state is notes/assumptions/23.md. -/
def Obligations.BodyFindsTheWord : Prop :=
  (∀ (ns : List Byte) s,
    let marked := fun c : Cell => if ∃ n ∈ ns, c.ticket = some n then { c with mark := .unchecked } else c
    (uncheck ns s).spelling = { s.spelling with queue := s.spelling.queue.filter fun e => !ns.contains e.ticket } ∧
    (uncheck ns s).lines.current.cells = s.lines.current.cells.map marked ∧
    (uncheck ns s).lines.outgoing.map (·.cells) = s.lines.outgoing.map (·.cells.map marked) ∧
    Frame [.lines, .spelling] s (uncheck ns s)) ∧
  (∀ reason s, (s.spelling.queue.map (·.ticket)).Nodup →
    let u := unavailable reason s
    let ns := (s.spelling.queue.filter fun e => e.looking = false).map (·.ticket)
    u.spelling = { s.spelling with dictState := .unavailable, queue := s.spelling.queue.filter (·.looking) } ∧
    u.lines = (uncheck ns s).lines ∧ u.notices = (raise .spellUnavailable [byte reason] s).notices ∧
    Frame [.lines, .spelling, .notices] s u) ∧
  (∀ n (mark : SpellMark) s r, ticketRecord s n = some r →
    let u := applyOutcome n mark s
    let final := if mark = .unknown ∧ r.word ∈ s.spelling.userWords then SpellMark.known else mark
    let acts := final = .unknown ∧ unknownPolicy s r.source ≠ .ignore
    let holds := final = .unknown ∧ unknownPolicy s r.source = .hold ∧ s.lines.current.composition = some .word
    let marked := fun c : Cell => if c.ticket = some n then
      { c with mark := final, state := if holds ∧ c.state = .held then .spellHold else c.state } else c
    u.spelling = { s.spelling with queue := s.spelling.queue.filter (·.ticket ≠ n) } ∧
    u.lines.current.cells = s.lines.current.cells.map marked ∧
    u.lines.outgoing.map (·.cells) = s.lines.outgoing.map (·.cells.map marked) ∧
    (¬ acts → u.signals = s.signals ∧ u.notices = s.notices) ∧
    (acts → u.signals = (requestBeep .double s).signals ∧
      (r.source = .keyboard → u.notices = (raiseTo .keyboard .unknownWord [n, byte r.word.length] s).notices) ∧
      (r.source = .interface → u.notices = (raiseTo .interface .unknownWord [n, byte r.word.length] s).notices)) ∧
    Frame [.lines, .spelling, .signals, .notices] s u) ∧
  (∀ n s,
    let looking := ∃ e ∈ s.spelling.queue, e.ticket = n ∧ e.looking = true
    let u := lookupDropped n s
    (¬ looking → u = s) ∧
    (looking → isCancelled s n = true → u.spelling.queue = s.spelling.queue.filter (·.ticket ≠ n) ∧
      ticketRecord u n = none ∧ u.lines = s.lines ∧ Frame [.spelling] s u) ∧
    (looking → isCancelled s n = false → u = { s with spelling := { s.spelling with
      queue := s.spelling.queue.map fun e => if e.ticket = n then { e with looking := false } else e } })) ∧
  (∀ (entries : List (List Code)) (word : List Code),
    (∀ e ∈ entries, 2 ≤ e.length ∧ e.length ≤ 24) → 2 ≤ word.length → word.length ≤ 24 →
    entries.Pairwise (fun x y => List.Lex (fun (c d : Code) => c.toNat < d.toNat) x y) → entries ≠ [] →
    let body := (entries.map fun e => byte e.length :: e).flatten
    scanBody word ⟨body.length, none⟩ body = .reached (if word ∈ entries then .known else .unknown)) ∧
  (∀ (entries : List (List Code)) (word : List Code) (b : Byte) rest,
    (∀ e ∈ entries, 2 ≤ e.length ∧ e.length ≤ 24 ∧ List.Lex (fun (c d : Code) => c.toNat < d.toNat) e word) →
    2 ≤ word.length → (b.toNat < 2 ∨ 24 < b.toNat ∨ rest.length < b.toNat) →
    let body := (entries.map fun e => byte e.length :: e).flatten ++ b :: rest
    scanBody word ⟨body.length, none⟩ body = .reached .unchecked) ∧
  (∀ word p bs bs', scanBody word p (bs ++ bs') = match scanBody word p bs with
    | .reached m => .reached m
    | .more p' => scanBody word p' bs') ∧
  (∀ (x : Transfer) memory n word p, x.kind = .body n word p →
    let bs := memory.take x.length
    let k := (dataBytes x memory).length
    dataBytes x memory = bs.take k ∧ (∀ j, j < k → ∃ p', scanBody word p (bs.take j) = .more p') ∧
    (k < bs.length → ∃ m, scanBody word p (bs.take k) = .reached m)) ∧
  ∀ s, s.resetHeld = false →
    (∀ reply, (∀ x n word p, s.spelling.port = some x → x.kind ≠ .body n word p) →
      ∃ t, Machine.exec (.bodyTransferEnd reply) s = .next t ∧ Becomes s t) ∧
    ∀ x n word p, s.spelling.port = some x → x.kind = .body n word p →
      let u : State := { s with spelling := { s.spelling with port := none } }
      let ends := fun bs : List Byte => bs.length = x.length ∨
        bs.length < x.length ∧ ∃ m, scanBody word p bs = .reached m
      (x.discard = true ∨ isCancelled s n = true →
        (∃ t, Machine.exec (.bodyTransferEnd .noAcknowledge) s = .next t ∧ Becomes (lookupDropped n u) t) ∧
        ∀ bs, ends bs → ∃ t, Machine.exec (.bodyTransferEnd (.data bs)) s = .next t ∧
          Becomes (lookupDropped n u) t) ∧
      (x.discard = false → isCancelled s n = false →
        (∃ t, Machine.exec (.bodyTransferEnd .noAcknowledge) s = .next t ∧ Becomes (unavailable 0 (uncheck [n] u)) t) ∧
        ∀ bs, ends bs → ∃ t, Machine.exec (.bodyTransferEnd (.data bs)) s = .next t ∧
          (∀ m, scanBody word p bs = .reached m → Becomes (applyOutcome n m u) t) ∧
          (∀ p', scanBody word p bs = .more p' → Becomes { s with spelling := { s.spelling with
            port := some ⟨.body n word p', x.address + x.length, min 128 p'.left, s.spelling.rate, s.spelling.device,
              false⟩ } } t))

/-! ## Display -/

/-- The message slots (R173, R174): SHOW_MESSAGE checks its codes and writes the station's slot, CLEAR_MESSAGE empties it, the
expiry of the shown slot's time empties that; each sets the dirty flag (R175). That more than 32 codes are BAD REQUEST whatever
the codes is the model's reading (notes/assumptions/46.md). -/
def Obligations.MessageSlots : Prop :=
  (∀ st (duration : Byte) codes s, Ready .showMessage st (duration :: codes) s →
    (codes = [] ∨ 32 < codes.length → ∃ t, Machine.exec (.showMessage st (duration :: codes)) s = .next t ∧
      Refused st .badRequest s t) ∧
    (codes ≠ [] → codes.length ≤ 32 → (∃ c ∈ codes, c.toNat < 0x20) →
      ∃ t, Machine.exec (.showMessage st (duration :: codes)) s = .next t ∧ Refused st .badValue s t) ∧
    (codes ≠ [] → codes.length ≤ 32 → (∀ c ∈ codes, 0x20 ≤ c.toNat) →
      ∃ t, Machine.exec (.showMessage st (duration :: codes)) s = .next t ∧ Answered st ⟨.ok, []⟩ s t ∧
        (st = .keyboard → t.display = { s.display with
          kbSlot := some ⟨codes, duration.toNat, duration.toNat⟩, dirty := true }) ∧
        (st = .interface → t.display = { s.display with
          ifSlot := some ⟨codes, duration.toNat, duration.toNat⟩, dirty := true }) ∧ Frame [.links, .display] s t)) ∧
  (∀ st s, Ready .clearMessage st [] s → ∃ t, Machine.exec (.clearMessage st []) s = .next t ∧
    Answered st ⟨.ok, []⟩ s t ∧ (st = .keyboard → t.display = { s.display with kbSlot := none, dirty := true }) ∧
    (st = .interface → t.display = { s.display with ifSlot := none, dirty := true }) ∧ Frame [.links, .display] s t) ∧
  ∀ s, s.resetHeld = false → ∃ t, Machine.exec .messageExpiry s = .next t ∧ Frame [.display] s t ∧
    (∀ m, s.display.kbSlot = some m → m.duration ≠ 0 → t.display = { s.display with kbSlot := none, dirty := true }) ∧
    (∀ m, s.display.kbSlot = none → s.display.ifSlot = some m → m.duration ≠ 0 →
      t.display = { s.display with ifSlot := none, dirty := true }) ∧
    ((s.display.kbSlot = none ∧ s.display.ifSlot = none) ∨ (∃ m, s.display.kbSlot = some m ∧ m.duration = 0) ∨
      (s.display.kbSlot = none ∧ ∃ m, s.display.ifSlot = some m ∧ m.duration = 0) → t.display = s.display)

/-- A frame (R166, R203): start mark, cursor column, 32 codes, blink mask and 16 segments (R172); the message shown, padded with
SPACE, without cursor and blinking, or 32 columns of the line from the window start, which follows the cursor index (R169, R170).
A shown cell stands in one column (R167): a column cell in its own, an overlay cell in that of the column cell of least start
among those it overlaps, or alone; columns ascend by start, and two of one start by typing order (of two column cells:
notes/assumptions/45.md). A column shows the code typed last in it (R168) and blinks with an UNKNOWN cell (R171). The display
port (R176 to R178): a dirty display with the port IDLE, or the retry timer's expiry, takes a snapshot and sends it byte by byte;
byte 39 completes the transfer; 50 ms of DBUSY abandon the frame, with DISPLAY FAULT naming the byte that waited, and start the
retry timer. That a row carries the level of DBUSY after it is notes/assumptions/8.md, that a column which starts at P at the end
of a LINE line is not counted in the cursor index, 54.md. -/
def Obligations.DisplayTransfers : Prop :=
  (∀ s, (snapshotBytes s).length = 40 ∧ (snapshotBytes s).head? = some 0x1F) ∧
  (∀ s m, s.display.kbSlot = some m ∨ s.display.kbSlot = none ∧ s.display.ifSlot = some m → m.codes.length ≤ 32 →
    snapshotWindow s = s.display.ws ∧ ((snapshotBytes s).drop 1).take 37 =
      0xFF :: m.codes ++ List.replicate (32 - m.codes.length) 0x20 ++ [0, 0, 0, 0]) ∧
  (∀ s, s.display.kbSlot = none → s.display.ifSlot = none →
    let cols := columns s.lines.current.cells
    let ci := cols.countP fun x => x.start < s.composer.p
    let ws := snapshotWindow s
    (ci < s.display.ws + 4 → ws = ci - 4) ∧ (s.display.ws + 27 < ci → ws = ci - 27) ∧
    (s.display.ws + 4 ≤ ci → ci ≤ s.display.ws + 27 → ws = s.display.ws) ∧
    (snapshotBytes s)[1]? = some (byte (ci - ws)) ∧
    ∀ k, k < 32 → (cols[ws + k]? = none → (snapshotBytes s)[2 + k]? = some 0x20) ∧
      (∀ x, cols[ws + k]? = some x → ∃ c ∈ x.group, (∀ d ∈ x.group, d.id ≤ c.id) ∧ (snapshotBytes s)[2 + k]? = some c.code) ∧
      ((num (((snapshotBytes s).drop 34).take 4)).testBit (31 - k) = true ↔
        ∃ x, cols[ws + k]? = some x ∧ ∃ c ∈ x.group, c.mark = .unknown)) ∧
  (∀ s,
    let attr := if s.streams.holder = some .interface then s.composer.ifAttr else s.composer.kbAttr
    let mode := s.lines.current.composition.getD s.settings.kbMode
    ∀ (i : Nat) (lit : Prop), [effectivePitch s = .p10, effectivePitch s = .p12, effectivePitch s = .p15, effectivePitch s = .ps,
        attr.bold = true, attr.underline = true, s.settings.layout = .justify, mode = .line, mode = .word,
        s.streams.holder = some .interface, ∃ c ∈ s.lines.current.cells, c.mark = .unknown, s.dispatch.state = .halted,
        s.service.ribbon ≤ s.service.ribbonThreshold ∨ s.signals.ribbon.level ≠ .negated,
        s.service.tape ≤ s.service.tapeThreshold ∨ s.signals.tape.level ≠ .negated, s.composer.marginRelease = true,
        s.settings.right ≤ s.composer.p + s.settings.hotZone ∧ s.composer.p < s.settings.right][i]? = some lit →
      ((num ((snapshotBytes s).drop 38)).testBit (15 - i) = true ↔ lit)) ∧
  (∀ cells : List Cell, (cells.map (·.id)).Nodup →
    let shown := cells.filter (·.state ≠ .lifting)
    let own := fun c : Cell => 0 < c.width ∧ c.overstrike = false
    let meets := fun c d : Cell => c.start < d.start + max d.width 1 ∧ d.start < c.start + max c.width 1
    let cols := columns cells
    cols.Pairwise (fun x y => x.start < y.start ∨ x.start = y.start ∧ x.key < y.key) ∧
    (∀ x ∈ cols, ∃ c ∈ x.group, c.start = x.start ∧ c.id = x.key) ∧ (∀ x ∈ cols, ∀ c ∈ x.group, c ∈ shown) ∧
    ∀ c ∈ shown, ∃ x ∈ cols, c ∈ x.group ∧ (∀ y ∈ cols, c ∈ y.group → y = x) ∧ (own c → x.start = c.start ∧ x.key = c.id) ∧
      (¬ own c → (∀ d ∈ shown, own d → ¬ meets c d) → x = ⟨c.start, c.id, [c]⟩) ∧
      (¬ own c → (∃ d ∈ shown, own d ∧ meets c d) → ∃ d ∈ shown, own d ∧ meets c d ∧ x.start = d.start ∧ x.key = d.id ∧
        ∀ e ∈ shown, own e → meets c e → d.start ≤ e.start)) ∧
  ∀ busy s, s.resetHeld = false → DisplayOk s.display →
    (∀ c, (c = Instr.displaySnapshot busy ∧ s.display.phase = .idle ∧ s.display.dirty = true) ∨
        (c = Instr.retryTimerExpiry busy ∧ s.display.phase = .retryWait) →
      ∃ t, Machine.exec c s = .next t ∧ Frame [.display] s t ∧ t.display = { s.display with
        ws := snapshotWindow s, dirty := false, phase := .sending, frame := some ⟨snapshotBytes s, 0⟩, busyWait := busy,
        retryTimer := false, dbusy := busy }) ∧
    (∀ c, (c = Instr.displaySnapshot busy ∧ (s.display.phase ≠ .idle ∨ s.display.dirty = false)) ∨
        (c = Instr.retryTimerExpiry busy ∧ s.display.phase ≠ .retryWait) ∨
        (c = Instr.displayByteSent busy ∧ s.display.phase ≠ .sending) ∨
        (c = Instr.busyWaitExpiry ∧ s.display.busyWait = false) → ∃ t, Machine.exec c s = .next t ∧ Becomes s t) ∧
    ∀ f, s.display.phase = .sending → s.display.frame = some f →
      (∃ t, Machine.exec (.displayByteSent busy) s = .next t ∧ Frame [.display] s t ∧
        (f.next < 39 → t.display = { s.display with
          data := f.bytes[f.next]?, dbusy := busy, frame := some ⟨f.bytes, f.next + 1⟩, busyWait := busy }) ∧
        (f.next = 39 → t.display = { s.display with
          data := f.bytes[f.next]?, dbusy := busy, phase := .idle, frame := none, busyWait := false })) ∧
      (s.display.busyWait = true → ∃ t, Machine.exec .busyWaitExpiry s = .next t ∧
        Becomes (raise .displayFault [byte f.next] { s with display := { s.display with
          phase := .retryWait, frame := none, busyWait := false, retryTimer := true } }) t)

/-- Every event after which an item of R175's list has another value leaves the dirty flag set; so for every command. The items:
of the current line's cells, which there are, and their code, start, width, state, mark and flags; its composition; P, and the
cursor in LINE composition; the effective pitch, the attribute state shown, the layout setting, the keyboard's mode, the holder,
the dispatch state, margin release, hot-zone width and margins; supply counts, thresholds and filtered levels; the message slots.
A line end, after which an outgoing line stands where none stood, begins a new current line and sets it too. -/
def Obligations.ChangesOfWhatIsShownSetTheDirtyFlag : Prop :=
  ∀ c s t, Machine.exec c s = .next t →
    let cells := fun v : State => v.lines.current.cells.map fun x =>
      ((x.id, x.code, x.start, x.width), x.state, x.mark, x.overstrike, x.fixed, x.notOnWheel)
    let cursor := fun v : State => if v.lines.current.composition = some .line then v.composer.cursor else 0
    let attr := fun v : State => if v.streams.holder = some .interface then v.composer.ifAttr else v.composer.kbAttr
    let slot := fun m : Option Message => m.map fun x => (x.codes, x.duration)
    (cells s ≠ cells t ∨ s.lines.current.composition ≠ t.lines.current.composition ∨ s.composer.p ≠ t.composer.p ∨
      cursor s ≠ cursor t ∨ effectivePitch s ≠ effectivePitch t ∨ attr s ≠ attr t ∨ s.settings.layout ≠ t.settings.layout ∨
      s.settings.kbMode ≠ t.settings.kbMode ∨ s.streams.holder ≠ t.streams.holder ∨ s.dispatch.state ≠ t.dispatch.state ∨
      s.composer.marginRelease ≠ t.composer.marginRelease ∨ s.settings.hotZone ≠ t.settings.hotZone ∨
      s.settings.left ≠ t.settings.left ∨ s.settings.right ≠ t.settings.right ∨ s.service.ribbon ≠ t.service.ribbon ∨
      s.service.ribbonThreshold ≠ t.service.ribbonThreshold ∨ s.service.tape ≠ t.service.tape ∨
      s.service.tapeThreshold ≠ t.service.tapeThreshold ∨ s.signals.ribbon.level ≠ t.signals.ribbon.level ∨
      s.signals.tape.level ≠ t.signals.tape.level ∨ slot s.display.kbSlot ≠ slot t.display.kbSlot ∨
      slot s.display.ifSlot ≠ slot t.display.ifSlot ∨ s.lines.outgoing = none ∧ t.lines.outgoing ≠ none) →
    t.display.dirty = true

/-! ## Signals and service -/

/-- SET_SIGNALS, SET_LAMPS, CLEAR_LAMPS, BEEP and the beeper's timer (R182 to R184). That the form of SET_SIGNALS is checked
before its values is notes/assumptions/46.md. -/
def Obligations.LampsAndBeeper : Prop :=
  (∀ st payload s, Ready .setSignals st payload s → s.signals.lamps.length = 4 →
    (settingFields [1, 1, 1, 1, 1, 1] payload = none →
      ∃ t, Machine.exec (.setSignals st payload) s = .next t ∧ Refused st .badRequest s t) ∧
    ∀ fs, settingFields [1, 1, 1, 1, 1, 1] payload = some fs →
      let valid := atMost fs 2 4 ∧ atMost fs 3 4 ∧ atMost fs 4 4 ∧ atMost fs 5 4
      (¬ valid → ∃ t, Machine.exec (.setSignals st payload) s = .next t ∧ Refused st .badValue s t) ∧
      (valid → ∃ t status lamps, Machine.exec (.setSignals st payload) s = .next t ∧
        (status = .clamped ∧ (exceeds fs 0 2 30 ∨ exceeds fs 1 10 40) ∨
          status = .ok ∧ ¬ (exceeds fs 0 2 30 ∨ exceeds fs 1 10 40)) ∧ lamps.length = 4 ∧
        (∀ i l, s.signals.lamps[i]? = some l → ∃ f : LampFunction, f.number = written fs (2 + i) l.function.number ∧
          lamps[i]? = some { l with function := f }) ∧
        Yields st ⟨status, []⟩ { s with signals := { s.signals with
          filterTime := writtenIn fs 0 2 30 s.signals.filterTime, tone := writtenIn fs 1 10 40 s.signals.tone,
          lamps := lamps } } s t)) ∧
  (∀ st (set : Byte) on c s, (on = true ∧ c = Instr.setLamps st [set] ∧ Ready .setLamps st [set] s ∨
      on = false ∧ c = Instr.clearLamps st [set] ∧ Ready .clearLamps st [set] s) →
    (15 < set.toNat → ∃ t, Machine.exec c s = .next t ∧ Refused st .badValue s t) ∧
    (set.toNat ≤ 15 → ∃ t, Machine.exec c s = .next t ∧ Yields st ⟨.ok, []⟩ { s with signals := { s.signals with
      lamps := s.signals.lamps.mapIdx fun i l => if set.toNat.testBit i = true then { l with manual := on } else l } } s t)) ∧
  (∀ st (p : Byte) s, Ready .beep st [p] s →
    (2 < p.toNat → ∃ t, Machine.exec (.beep st [p]) s = .next t ∧ Refused st .badValue s t) ∧
    (∀ x : Pattern, p.toNat ≤ 2 → (p = 0 → x = .short) → (p = 1 → x = .double) → (p = 2 → x = .long) →
      (s.signals.beeper = none ∨ (x = .long ∧ ∃ b, s.signals.beeper = some b ∧ b.pattern ≠ .long) →
        ∃ t, Machine.exec (.beep st [p]) s = .next t ∧ Yields st ⟨.ok, []⟩ { s with signals := { s.signals with
          beeper := some ⟨x, 0, s.signals.tone⟩ } } s t) ∧
      (∀ b, s.signals.beeper = some b → x ≠ .long ∨ b.pattern = .long →
        ∃ t, Machine.exec (.beep st [p]) s = .next t ∧ Refused st .notNow s t))) ∧
  ∀ s, s.resetHeld = false → ∃ t, Machine.exec .beepTimerExpiry s = .next t ∧
    (∀ b, s.signals.beeper = some b → b.pattern = .double → b.period < 2 →
      Becomes { s with signals := { s.signals with beeper := some { b with period := b.period + 1 } } } t) ∧
    (∀ b, s.signals.beeper = some b → b.pattern ≠ .double ∨ 2 ≤ b.period →
      Becomes { s with signals := { s.signals with beeper := none } } t) ∧
    (s.signals.beeper = none → Becomes s t)

/-- The sense inputs (R180, R181): a change of the pin starts the filter timer, a return to the filtered level stops it; at its
expiry an UNSETTLED input takes its level silently, and any other is a change, with its latch and SENSE CHANGE; either is
judged by the gates (R93). -/
def Obligations.SenseInputs : Prop :=
  ∀ i s, s.resetHeld = false →
    (∀ level, ∃ t, Machine.exec (.sensePinChange i level) s = .next t ∧ Frame [.signals] s t ∧
      (∀ j, j ≠ i → senseOf t.signals j = senseOf s.signals j) ∧
      (let x := senseOf s.signals i
       t.signals = (onSense i (fun _ => senseOf t.signals i) s).signals ∧
       (x.raw = level → senseOf t.signals i = x) ∧
       (x.raw ≠ level → (x.level = .asserted ∧ level = true ∨ x.level = .negated ∧ level = false) →
         senseOf t.signals i = { x with raw := level, timer := none }) ∧
       (x.raw ≠ level → ¬ (x.level = .asserted ∧ level = true ∨ x.level = .negated ∧ level = false) →
         senseOf t.signals i = { x with raw := level, timer := some s.signals.filterTime }))) ∧
    (let x := senseOf s.signals i
     let settled : Level := if x.raw = true then .asserted else .negated
     (x.timer = none → ∃ t, Machine.exec (.filterTimerExpiry i) s = .next t ∧ Becomes s t) ∧
     (x.timer ≠ none → x.level = .unsettled → ∃ t, Machine.exec (.filterTimerExpiry i) s = .next t ∧
       Becomes (judge (onSense i (fun y => { y with level := settled, timer := none }) s)) t) ∧
     (x.timer ≠ none → x.level ≠ .unsettled → ∃ t, Machine.exec (.filterTimerExpiry i) s = .next t ∧
       (let u := onSense i (fun y => { y with level := settled, timer := none, latch := true }) s
        Becomes (judge (raise .senseChange [levelsByte u.signals, latchesByte u.signals] u)) t)))

/-- SUPPLY_NEW, SET_COUNTER, the three COUNTERS rows, SET_STEPPING and STEP (R186, R189, R190). An action of COUNTERS above 2 is
BAD VALUE; that FREEZE's row stands for it is notes/assumptions/1.md. -/
def Obligations.SuppliesCountersAndStepping : Prop :=
  (∀ st (which c2 c1 c0 t2 t1 t0 : Byte) s, Ready .supplyNew st [which, c2, c1, c0, t2, t1, t0] s →
    let count := c2.toNat * 65536 + c1.toNat * 256 + c0.toNat
    let low := t2.toNat * 65536 + t1.toNat * 256 + t0.toNat
    (1 < which.toNat → ∃ t, Machine.exec (.supplyNew st [which, c2, c1, c0, t2, t1, t0]) s = .next t ∧
      Refused st .badValue s t) ∧
    (which = 0 → ∃ t, Machine.exec (.supplyNew st [which, c2, c1, c0, t2, t1, t0]) s = .next t ∧
      (let u : State := { s with service := { s.service with ribbon := count, ribbonThreshold := low } }
       Yields st ⟨.ok, []⟩ (if count ≤ low then raise .supplyLow (0 :: bytesOf 3 count) u else u) s t)) ∧
    (which = 1 → ∃ t, Machine.exec (.supplyNew st [which, c2, c1, c0, t2, t1, t0]) s = .next t ∧
      (let u : State := { s with service := { s.service with tape := min 65535 count, tapeThreshold := min 65535 low } }
       Yields st ⟨if 65535 < count ∨ 65535 < low then .clamped else .ok, []⟩
         (if min 65535 count ≤ min 65535 low then raise .supplyLow (1 :: bytesOf 3 (min 65535 count)) u else u) s t))) ∧
  (∀ st (n measure kmask kmatch smask smatch : Byte) s, Ready .setCounter st [n, measure, kmask, kmatch, smask, smatch] s →
    kmask.toNat ≤ 127 → kmatch.toNat ≤ 127 → smask.toNat ≤ 15 → smatch.toNat ≤ 15 →
    (3 < n.toNat ∨ 2 < measure.toNat ∨ kmatch &&& ~~~kmask ≠ 0 ∨ smatch &&& ~~~smask ≠ 0 →
      ∃ t, Machine.exec (.setCounter st [n, measure, kmask, kmatch, smask, smatch]) s = .next t ∧ Refused st .badValue s t) ∧
    (n.toNat ≤ 3 → measure.toNat ≤ 2 → kmatch &&& ~~~kmask = 0 → smatch &&& ~~~smask = 0 →
      ∃ t m, Machine.exec (.setCounter st [n, measure, kmask, kmatch, smask, smatch]) s = .next t ∧
        Measure.number m = measure.toNat ∧
        Yields st ⟨.ok, []⟩ { s with service := { s.service with counters := s.service.counters.modify n.toNat fun c =>
          { c with measure := m, kindMask := kmask, kindMatch := kmatch, sourceMask := smask, sourceMatch := smatch } } } s t)) ∧
  (∀ st (action : Byte) s, 2 < action.toNat → Ready .counters st [action] s →
    rowOfCode st ReqKind.counters.code [action] = .countersFreeze st [action] ∧
    ∃ t, Machine.exec (.countersFreeze st [action]) s = .next t ∧ Refused st .badValue s t) ∧
  (∀ st s, Ready .counters st [0] s → ∃ t, Machine.exec (.countersFreeze st [0]) s = .next t ∧
    Yields st ⟨.ok, []⟩ { s with service := { s.service with frozen := true } } s t) ∧
  (∀ st s, Ready .counters st [1] s → ∃ t, Machine.exec (.countersRun st [1]) s = .next t ∧
    Yields st ⟨.ok, []⟩ { s with service := { s.service with frozen := false } } s t) ∧
  (∀ st s, Ready .counters st [2] s → ∃ t, Machine.exec (.countersClear st [2]) s = .next t ∧
    Yields st ⟨.ok, []⟩ { s with service := { s.service with
      counters := s.service.counters.map fun c => { c with value := 0, overflow := false } } } s t) ∧
  (∀ st (x : Byte) s, Ready .setStepping st [x] s →
    (1 < x.toNat → ∃ t, Machine.exec (.setStepping st [x]) s = .next t ∧ Refused st .badValue s t) ∧
    (x.toNat ≤ 1 → ∃ t, Machine.exec (.setStepping st [x]) s = .next t ∧ Yields st ⟨.ok, []⟩
      (judge { s with service := { s.service with stepping := decide (x = 1), credit := false } }) s t)) ∧
  ∀ st s, Ready .step st [] s →
    (s.service.stepping = false → ∃ t, Machine.exec (.stepRequest st []) s = .next t ∧ Refused st .notNow s t) ∧
    (s.service.stepping = true → ∃ t, Machine.exec (.stepRequest st []) s = .next t ∧
      Yields st ⟨.ok, []⟩ (judge { s with service := { s.service with credit := true } }) s t)

/-- GET, READ_LINE and READ_STATUS (R198) change nothing but the answer buffer, except that READ_STATUS with option 1 clears the
four change latches after the record is formed. The layouts of their answers, item by item and byte by byte (R203): each setting
as the payload that writes it; the cell record; the status record. BAD REQUEST for an index of another length is
notes/assumptions/26.md, that its length is checked before its value 46.md, BAD VALUE for a line above 1 27.md; bits
without a meaning, bytes 30 and 31, and N and the word count before a header was read are free values (14.md, 15.md, 16.md). -/
def Obligations.ReadingTheState : Prop :=
  (∀ st payload s, Ready .get st payload s → ∃ t a, Machine.exec (.get st payload) s = .next t ∧ Yields st a s s t ∧
    (payload = [] → a = ⟨.badRequest, []⟩) ∧
    (∀ (item : Byte) ix, payload = item :: ix → (16 < item.toNat → a = ⟨.badValue, []⟩) ∧
      (item.toNat ≤ 16 → ix.length ≠ (if item = 2 then 2 else if item ∈ [(0 : Byte), 1, 11, 12, 13, 14, 16] then 1 else 0) →
        a = ⟨.badRequest, []⟩)) ∧
    (∀ n : Byte, (payload = [1, n] ∨ payload = [11, n] ∨ payload = [14, n]) ∧ 3 < n.toNat ∨ payload = [12, n] ∧ 127 < n.toNat ∨
      payload = [13, n] ∧ 1 < n.toNat ∨ payload = [16, n] ∧ (n = 0 ∨ 17 < n.toNat) → a = ⟨.badValue, []⟩) ∧
    (∀ c, payload = [0, c] → a = ⟨.ok, [byte (classOf s c).number, (classEntry s c).fold]⟩) ∧
    (∀ (n : Byte) x, payload = [1, n] → n.toNat ≤ 3 → s.wheels.slots[n.toNat]? = some x →
      (x = .empty → a = ⟨.ok, [0, 0xFF, 0xFF, 0xFF, 0xFF]⟩) ∧
      (∀ h es ws, x = .loading h es ws → a = ⟨.ok, [1, byte h.wheelId, byte h.native.number, byte h.underscore, byte h.space]⟩) ∧
      (∀ h es, x = .loaded h es → a = ⟨.ok, [2, byte h.wheelId, byte h.native.number, byte h.underscore, byte h.space]⟩)) ∧
    (∀ n c : Byte, payload = [2, n, c] → (3 < n.toNat ∨ c.toNat < 0x20 → a = ⟨.badValue, []⟩) ∧
      (n.toNat ≤ 3 → 0x20 ≤ c.toNat →
        (s.wheels.slots[n.toNat]? = some .empty → a = ⟨.none_, []⟩) ∧
        ∀ x es e, s.wheels.slots[n.toNat]? = some x → ((∃ h ws, x = .loading h es ws) ∨ ∃ h, x = .loaded h es) →
          es[c.toNat - 0x20]? = some e → ∃ b, a = ⟨.ok, [absentByte e.petal, b, absentByte e.second]⟩ ∧
            (e.width ≤ 7 → 1 ≤ e.energy → e.energy ≤ 4 → b.toNat / 32 = e.width ∧ b.toNat / 8 % 4 = e.energy - 1 ∧
              b.toNat % 4 = e.kind.number))) ∧
    (payload = [3] → a = ⟨.ok, settingPayload [1, 1, 1, 1, 1, 2, 2, 1, 1, 1] ([s.settings.kbMode.number,
      s.settings.ifMode.number, bit s.settings.autoReturn, s.settings.lineSpacing, s.settings.pitch.number, s.settings.left,
      s.settings.right, s.settings.hotZone, s.settings.xmax, s.settings.layout.number].map some)⟩) ∧
    (payload = [4] → a = ⟨.ok, settingPayload [1, 1, 2, 1] ([s.streams.kbPolicy.number, s.streams.ifPolicy.number,
      s.streams.lapseTime, s.streams.roomThreshold].map some)⟩) ∧
    (payload = [5] → a = ⟨.ok, settingPayload [1, 1, 1, 1, 1, 1, 1, 1, 1, 1] ([s.energy.capacity, s.energy.cost1,
      s.energy.cost2, s.energy.cost3, s.energy.cost4, s.energy.surcharge, s.energy.boost, s.energy.refill,
      bit s.energy.travelCharge, s.energy.impression.number].map some)⟩) ∧
    (payload = [6] → a = ⟨.ok, settingPayload [1, 1, 1, 1, 1] ([s.spelling.kbUnknown.number, s.spelling.ifUnknown.number,
      bit s.spelling.enable, s.spelling.rate.number, s.spelling.device].map some)⟩) ∧
    (payload = [7] → s.signals.lamps.length = 4 → a = ⟨.ok, settingPayload [1, 1, 1, 1, 1, 1]
      ((s.signals.filterTime :: s.signals.tone :: s.signals.lamps.map (·.function.number)).map some)⟩) ∧
    (payload = [8] → a = ⟨.ok, [byte (bit s.service.stepping)]⟩) ∧
    (payload = [9] → a = ⟨.ok, byte s.settings.tabs.length :: (s.settings.tabs.map (bytesOf 2)).flatten⟩) ∧
    (payload = [10] → a = ⟨.ok, [byte s.dispatch.homeInterval] ++ bytesOf 2 s.dispatch.homeCount ++
      [byte (bit s.dispatch.homeDue)]⟩) ∧
    (∀ (n : Byte) r, payload = [11, n] → n.toNat ≤ 3 → s.spelling.skipRules[n.toNat]? = some r →
      a = ⟨.ok, n :: settingPayload [1, 1, 1, 1, 1]
        ([bit r.enabled, r.minLen, r.maxLen, r.pattern.number, bit r.invert].map some)⟩) ∧
    (∀ n : Byte, payload = [12, n] → n.toNat ≤ 127 →
      (∀ w, s.spelling.userWords[n.toNat]? = some w → a = ⟨.ok, byte w.length :: w⟩) ∧
      (s.spelling.userWords.length ≤ n.toNat → a = ⟨.none_, []⟩)) ∧
    (payload = [13, 0] → a = ⟨.ok, bytesOf 3 s.service.ribbon ++ bytesOf 3 s.service.ribbonThreshold⟩) ∧
    (payload = [13, 1] → a = ⟨.ok, bytesOf 3 s.service.tape ++ bytesOf 3 s.service.tapeThreshold⟩) ∧
    (∀ (n : Byte) c, payload = [14, n] → n.toNat ≤ 3 → s.service.counters[n.toNat]? = some c → a = ⟨.ok, bytesOf 4 c.value ++
      [byte (bit c.overflow), byte c.measure.number, c.kindMask, c.kindMatch, c.sourceMask, c.sourceMatch]⟩) ∧
    (payload = [15] → ∃ b : Byte, a = ⟨.ok, [b]⟩ ∧
      ∀ (i : Nat) l, i < 4 → s.signals.lamps[i]? = some l → b.toNat.testBit i = l.manual) ∧
    (∀ (n : Byte) r, payload = [16, n] → 1 ≤ n.toNat → n.toNat ≤ 17 → s.notices.routes[n.toNat - 1]? = some r →
      a = ⟨.ok, [n, 0, 3, if n ∈ [(6 : Byte), 9, 10, 11, 15] then 0xFF
        else byte (bit r.keyboard + bit r.mechanism * 2 + bit r.interface * 4), byte r.kbPriority, byte r.mechPriority,
        byte r.ifPriority]⟩)) ∧
  (∀ c : Cell, ∃ f g h : Byte,
    cellRecord c = [c.code] ++ bytesOf 2 c.start ++ [byte c.width, byte c.extra, f, g, c.ticket.getD 0xFF, h] ∧
    f.toNat.testBit 7 = c.bold ∧ f.toNat.testBit 6 = c.underline ∧ f.toNat.testBit 5 = decide (c.source = .interface) ∧
    f.toNat.testBit 2 = c.overstrike ∧ f.toNat.testBit 1 = c.fixed ∧ f.toNat.testBit 0 = c.notOnWheel ∧
    g.toNat / 16 % 8 = c.state.number ∧ g.toNat % 8 = c.mark.number ∧
    (c.outstanding ≤ 7 → h.toNat.testBit 7 = c.ticket.isSome ∧ h.toNat % 8 = c.outstanding)) ∧
  (∀ st (line first : Byte) s, Ready .readLine st [line, first] s →
    (1 < line.toNat → ∃ t, Machine.exec (.readLine st [line, first]) s = .next t ∧ Refused st .badValue s t) ∧
    (line = 1 → s.lines.outgoing = none → ∃ t, Machine.exec (.readLine st [line, first]) s = .next t ∧
      Refused st .none_ s t) ∧
    ∀ l, (line = 0 ∧ l = s.lines.current ∨ line = 1 ∧ s.lines.outgoing = some l) →
      ∃ t, Machine.exec (.readLine st [line, first]) s = .next t ∧
        (let cells := (l.cells.drop first.toNat).take 4
         Yields st ⟨.ok, [line, byte l.cells.length, first, byte cells.length] ++ (cells.map cellRecord).flatten⟩ s s t)) ∧
  ∀ st (option : Byte) s, Ready .readStatus st [option] s →
    (1 < option.toNat → ∃ t, Machine.exec (.readStatus st [option]) s = .next t ∧ Refused st .badValue s t) ∧
    (option = 0 → ∃ t, Machine.exec (.readStatus st [option]) s = .next t ∧ Yields st ⟨.ok, statusRecord s st⟩ s s t) ∧
    (option = 1 → ∃ t, Machine.exec (.readStatus st [option]) s = .next t ∧
      Yields st ⟨.ok, statusRecord s st⟩ { s with signals := { s.signals with
        cover := { s.signals.cover with latch := false }, paper := { s.signals.paper with latch := false },
        ribbon := { s.signals.ribbon with latch := false }, tape := { s.signals.tape with latch := false } } } s t) ∧
    (statusRecord s st).length = 32 ∧ ∃ (latches b30 b31 : Byte) (n w : List Byte),
      statusRecord s st = [byte (holderNumber s.streams.holder),
          byte (bit s.streams.takeover * 128 + bit s.streams.lapsePending * 64 + s.streams.pageHold.number),
          byte s.streams.typeAhead.length] ++
        bytesOf 2 s.streams.interfaceQ.length ++ [byte s.streams.divertQ.length, byte s.dispatch.state.number] ++
        bytesOf 2 s.dispatch.c ++ [byte s.dispatch.orders.length, byte (s.dispatch.orders.countP (·.fetched)),
          byte s.correction.held.length, byte s.energy.level, byte s.energy.capacity, byte s.correction.memory.length,
          byte s.spelling.dictState.number, byte s.spelling.queue.length] ++ n ++ w ++
        [byte s.spelling.overflow, byte s.spelling.userWords.length, byte s.display.phase.number,
          byte (s.signals.cover.level.number * 64 + s.signals.paper.level.number * 16 + s.signals.ribbon.level.number * 4 +
            s.signals.tape.level.number), latches, byte (linkOf s st).overruns, byte s.wheels.mounted,
          byte ((slotAt s 0).number * 64 + (slotAt s 1).number * 16 + (slotAt s 2).number * 4 + (slotAt s 3).number),
          b30, b31] ∧
      n.length = 2 ∧ w.length = 3 ∧
      (∀ k, s.spelling.bucketCount = some k → n = bytesOf 2 k) ∧ (∀ k, s.spelling.wordCount = some k → w = bytesOf 3 k) ∧
      latches.toNat.testBit 3 = s.signals.cover.latch ∧ latches.toNat.testBit 2 = s.signals.paper.latch ∧
      latches.toNat.testBit 1 = s.signals.ribbon.latch ∧ latches.toNat.testBit 0 = s.signals.tape.latch

/-! ## Composer -/

/-- Whether a printable code is refused, and why (R66, R72): its checks in their order in each composition; that a LINE cell past
1559 is OVERRUN is notes/assumptions/42.md. A DIRECT code that passes becomes a RELEASED cell at P with its strikes in the queue,
or, without strikes, a PRINTED one with a MOVE to its end, merged into a PENDING MOVE at the tail (R67 to R69); it waits at the
head until the queue has room, which it has not while a HOME is held, however many places are free (notes/assumptions/11.md). It
gains OVERSTRIKE over a cell of width above 0 that stays in the line: over a LIFTING one it does not (R68, R136). The spelling
unit handles it by its class (R144, R149), as noteCell gives it for the cell in the line (WordAndLinePrintables has its table,
SpellingSettings the capture): the spelling block, the cells' marks and tickets and the rest of the line are those it leaves,
FIXED aside, which a serial taken from the oldest strike record gives that record's cell (R88, R122). With its orders appended
before (AppendedOrdersTakeSerialTravelAndCost) and the offerable flag judged after (GatesAndTheOfferableFlag), the bell included,
that is the whole effect. P in the hot zone after it rings the bell, once a line; a SPACE in or past the hot zone is taken as a
RETURN under auto return (R71), to which ReturnTaken gives the effects that ReturnEndsTheLine has (R59, R63, R81, R83). Under NO
TABLE a printable code waits in every composition (R12). The reasons' numbers are notes/assumptions/28.md. -/
def Obligations.DirectPrintables : Prop :=
  (∀ src (code : Code) s, Admits src code s → 0x20 ≤ code.toNat → mountedTable s = none →
    ∃ x, Machine.exec (.composePrintable src) s = .next x ∧ Becomes s x) ∧
  (∀ t m code s,
    let stop := s.composer.p + t.width (effectivePitch s) code
    (t.has code = false → refusal t m code s = some 3) ∧
    (t.has code = true → 160 ≤ s.lines.current.cells.length → refusal t m code s = some 4) ∧
    (t.has code = true → s.lines.current.cells.length < 160 → m = .direct →
      (1559 < stop → refusal t m code s = some 5) ∧
      (stop ≤ 1559 → s.composer.marginRelease = false → 0 < t.width (effectivePitch s) code → s.settings.right < stop →
        refusal t m code s = some 6) ∧
      (stop ≤ 1559 → s.composer.marginRelease = true ∨ t.width (effectivePitch s) code = 0 ∨ stop ≤ s.settings.right →
        refusal t m code s = none)) ∧
    (t.has code = true → s.lines.current.cells.length < 160 → m = .word →
      (1559 < stop → refusal t m code s = some 5) ∧
      (stop ≤ 1559 → s.composer.marginRelease = true → refusal t m code s = none) ∧
      (stop ≤ 1559 → s.composer.marginRelease = false → s.settings.autoReturn = false →
        (0 < t.width (effectivePitch s) code → s.settings.right < stop → refusal t m code s = some 6) ∧
        (t.width (effectivePitch s) code = 0 ∨ stop ≤ s.settings.right → refusal t m code s = none)) ∧
      (stop ≤ 1559 → s.composer.marginRelease = false → s.settings.autoReturn = true →
        (min (s.settings.right + 240) 1559 < stop → refusal t m code s = some 7) ∧
        (stop ≤ min (s.settings.right + 240) 1559 → refusal t m code s = none))) ∧
    (t.has code = true → s.lines.current.cells.length < 160 → m = .line →
      let last := (if s.lines.current.cells = [] then s.settings.left else s.lines.current.snapshot) +
        (s.lines.current.cells.map (·.width)).sum + t.width (effectivePitch s) code
      (min (s.settings.right + 240) 1559 < last → refusal t m code s = some 7) ∧
      (last ≤ min (s.settings.right + 240) 1559 → refusal t m code s = none))) ∧
  ∀ src (code : Code) t s, Admits src code s → 0x20 ≤ code.toNat → mountedTable s = some t →
    let m := compositionFor s src
    let u := takeHead src s
    (∀ reason, refusal t m code u = some reason →
      ¬ (m = .direct ∧ code = 0x20 ∧ s.settings.autoReturn = true ∧ s.settings.right ≤ s.composer.p + s.settings.hotZone) →
      ∃ x, Machine.exec (.composePrintable src) s = .next x ∧
        Becomes (judge (refusedCharacters src reason 1 (requestBeep .long u))) x) ∧
    (m = .direct → code = 0x20 → s.settings.autoReturn = true → s.settings.right ≤ s.composer.p + s.settings.hotZone →
      ∃ x, Machine.exec (.composePrintable src) s = .next x ∧ ReturnTaken src s x ∧ endWord .direct u ≠ none) ∧
    (m = .direct → refusal t m code u = none →
      ¬ (code = 0x20 ∧ s.settings.autoReturn = true ∧ s.settings.right ≤ s.composer.p + s.settings.hotZone) →
      let w := t.width (effectivePitch s) code
      let c : Cell :=
        { id := s.composer.nextCell, code := code, start := u.composer.p, width := w, extra := 0,
          bold := (attrOf s src).bold, underline := (attrOf s src).underline, source := src, state := .held, mark := .none,
          overstrike := decide (0 < w ∧ ∃ d ∈ s.lines.current.cells, 0 < d.width ∧ d.state ≠ .lifting ∧
            u.composer.p < d.start + max d.width 1 ∧ d.start < u.composer.p + max w 1),
          fixed := false, notOnWheel := false, ticket := none, word := none, outstanding := 0 }
      let jobs := strikeJobs t s.energy.impression c
      let place := fun x : Cell =>
        ((x.id, x.code, x.start, x.width, x.extra), (x.bold, x.underline, x.source), x.state, x.outstanding, x.overstrike)
      let stop := u.composer.p + w
      let unfixed := fun l : Line => ({ l with cells := l.cells.map fun d => ({ d with fixed := false } : Cell) } : Line)
      let ring := fun y : State =>
        if u.composer.bellRung = false ∧ s.settings.right ≤ stop + s.settings.hotZone ∧ stop < s.settings.right then
          requestBeep .short { y with composer := { y.composer with bellRung := true } }
        else y
      let whole := fun (cell : Cell) (order : State → State) (x : State) => ∃ y,
        noteCell cell .direct (order (typed cell u)) = some y ∧ Becomes (judge (ring y)) x
      let noted := fun (cell : Cell) (x : State) => ∃ y, noteCell cell .direct (typed cell u) = some y ∧ x.spelling = y.spelling ∧
        unfixed x.lines.current = unfixed y.lines.current ∧ x.lines.outgoing.map unfixed = y.lines.outgoing.map unfixed ∧
        x.composer = { y.composer with bellRung := x.composer.bellRung }
      let bell := fun x : State =>
        let rings := u.composer.bellRung = false ∧ s.settings.right ≤ stop + s.settings.hotZone ∧ stop < s.settings.right
        (rings → x.composer.bellRung = true ∧ x.signals = (requestBeep .short s).signals) ∧
        (¬ rings → x.composer.bellRung = u.composer.bellRung ∧ x.signals = s.signals)
      (s.dispatch.homeHeld = none → jobs ≠ [] → s.dispatch.orders.length + jobs.length ≤ 32 →
        ∃ x, Machine.exec (.composePrintable src) s = .next x ∧ x.composer.p = u.composer.p + w ∧
          x.lines.current.cells.map place = s.lines.current.cells.map place ++
            [place { c with state := .released, outstanding := jobs.length }] ∧
          noted { c with state := .released, outstanding := jobs.length } x ∧
          whole { c with state := .released, outstanding := jobs.length } (appendJobs jobs) x ∧
          x.dispatch.orders.map (·.job) = s.dispatch.orders.map (·.job) ++ jobs ∧ x.streams = u.streams ∧ bell x ∧
          Frame [.streams, .lines, .composer, .dispatch, .correction, .spelling, .signals, .notices] s x) ∧
      (s.dispatch.homeHeld = none → jobs = [] → tailIsMove s = false → s.dispatch.orders.length < 32 →
        ∃ x, Machine.exec (.composePrintable src) s = .next x ∧ x.composer.p = u.composer.p + w ∧
          x.lines.current.cells.map place = s.lines.current.cells.map place ++
            [place { c with state := .printed, outstanding := 0 }] ∧ noted { c with state := .printed, outstanding := 0 } x ∧
          whole { c with state := .printed, outstanding := 0 } (makeMove stop (sourceOf src)) x ∧
          x.dispatch.orders.map (·.job) = s.dispatch.orders.map (·.job) ++
            [Job.plain .move (u.composer.p + w) (sourceOf src) none] ∧ x.streams = u.streams ∧ bell x ∧
          Frame [.streams, .lines, .composer, .dispatch, .correction, .spelling, .signals, .notices] s x) ∧
      (jobs = [] → tailIsMove s = true → ∃ x, Machine.exec (.composePrintable src) s = .next x ∧ x.composer.p = stop ∧
          x.lines.current.cells.map place = s.lines.current.cells.map place ++
            [place { c with state := .printed, outstanding := 0 }] ∧ noted { c with state := .printed, outstanding := 0 } x ∧
          whole { c with state := .printed, outstanding := 0 } (makeMove stop (sourceOf src)) x ∧
          x.dispatch.orders = (makeMove stop (sourceOf src) s).dispatch.orders ∧ x.streams = u.streams ∧ bell x ∧
          Frame [.streams, .lines, .composer, .dispatch, .correction, .spelling, .signals, .notices] s x) ∧
      (jobs = [] → tailIsMove s = false → s.dispatch.homeHeld ≠ none ∨ 32 ≤ s.dispatch.orders.length →
        ∃ x, Machine.exec (.composePrintable src) s = .next x ∧ Becomes s x) ∧
      (jobs ≠ [] → s.dispatch.homeHeld ≠ none ∨ 32 < s.dispatch.orders.length + jobs.length →
        ∃ x, Machine.exec (.composePrintable src) s = .next x ∧ Becomes s x))

/-- A printable code that passes R66 in WORD composition becomes a HELD cell at P with the attributes of its source, mark NONE
and, over a cell that stays in the line, OVERSTRIKE (R60, R68, R136), in the open group, which a SPACE, a PUNCT or a HYPHEN closes
(R72, R73), one of width 0 too by the model's reading (notes/assumptions/32.md). One that ends a word whose capture step 7 of R149
does not make waits at the head; that then nothing of it has happened is the model's reading (notes/assumptions/22.md). In LINE
composition it is inserted at the cursor, the provisional starts running from the L snapshot (R77); a start or P past its range is
brought to its end (R18, R29, notes/assumptions/39.md). Words: the open word and the pending apostrophe by the table of R144,
which noteCell applies to each cell of a WORD line, the spelling block and the cells' marks and tickets being those it leaves, and
nothing else but the offerable flag's judgement following; the runs of a LINE line are its maximal segments of letters and
apostrophes that R145 allows, cells of width 0 passed over. Those that are no captured word and do not touch the cursor are
captured in text order, which leaves none of them uncaptured, or is not made when the queue is full; at a RETURN all of them. That
`touches` passes over cells of width 0 too (notes/assumptions/21.md), that a captured word which was edited, a SKIPPED one as
well, is captured again (40.md), so too a carried one whose widths have changed (53.md), and that a ticket which such a run's
cells still carry is cancelled first (41.md) are the model's readings. -/
def Obligations.WordAndLinePrintables : Prop :=
  (∀ (x : Nat) (cells : List Cell), (placeFrom x cells).length = cells.length ∧
    ∀ (i : Nat) (c : Cell), cells[i]? = some c →
    (placeFrom x cells)[i]? = some { c with start := min (x + ((cells.take i).map (·.width)).sum) (1559 - c.width), extra := 0 }) ∧
  (∀ (c : Cell) m s,
    let word := s.spelling.openWord
    let apostrophe := s.spelling.pendingApos
    let gather := fun (ids : List Nat) (a : Option Nat) (t : State) =>
      ({ t with spelling := { t.spelling with openWord := ids, pendingApos := a } } : State)
    let joins := fun k : CharClass => 0 < c.width ∧ classOf s c.code = k ∧ c.overstrike = false
    (c.width = 0 → noteCell c m s = some s) ∧
    (joins .letter → noteCell c m s = some (gather (word ++ apostrophe.toList ++ [c.id]) none s)) ∧
    (joins .apostrophe → word = [] → noteCell c m s = some s) ∧
    (joins .apostrophe → word ≠ [] → apostrophe = none → noteCell c m s = some (gather word (some c.id) s)) ∧
    (0 < c.width → ¬ joins .letter → (joins .apostrophe → word ≠ [] ∧ apostrophe ≠ none) →
      (word = [] → noteCell c m s = some (gather [] none s)) ∧
      (word ≠ [] → noteCell c m s = (capture word m s).map (gather [] none)))) ∧
  (∀ (cls : Code → CharClass) (cells : List Cell),
    let live := cells.filter (0 < ·.width)
    let fits := fun r : List Cell => r ≠ [] ∧
      (∀ c ∈ r, c.overstrike = false ∧ (cls c.code = .letter ∨ cls c.code = .apostrophe)) ∧
      (∀ c, r.head? = some c ∨ r.getLast? = some c → cls c.code = .letter) ∧
      ∀ (i : Nat) x y, r[i]? = some x → r[i + 1]? = some y → ¬ (cls x.code = .apostrophe ∧ cls y.code = .apostrophe)
    (runs cls cells).flatten.Sublist live ∧
    ∀ r, r ∈ runs cls cells ↔ ∃ pre post, live = pre ++ r ++ post ∧ fits r ∧
      ∀ pre' a b post', pre = pre' ++ a → post = b ++ post' → fits (a ++ r ++ b) → a = [] ∧ b = []) ∧
  (∀ all s r,
    let cells := s.lines.current.cells
    (cells.map (·.id)).Nodup →
    let captured := ∃ w, (∀ c ∈ r, c.word = some w) ∧ ∀ c ∈ cells, c.word = some w → c ∈ r
    let touching := ∃ c ∈ r, ((cells.take s.composer.cursor).filter (0 < ·.width)).getLast? = some c ∨
      ((cells.drop s.composer.cursor).filter (0 < ·.width)).head? = some c
    (r ∈ runsToCapture all s ↔ r ∈ runs (classOf s) cells ∧ ¬ captured ∧ (all = true ∨ ¬ touching)) ∧
    ((∀ c ∈ r, c.ticket = none) → captureRun r s = capture (r.map (·.id)) .line s) ∧
    (r ∈ runs (classOf s) cells → captureRun r s =
      capture (r.map (·.id)) .line ((r.filterMap (·.ticket)).dedup.foldl (fun v n => cancelTicket n v) s))) ∧
  (∀ edited s,
    let v := if edited = true then cancelBroken s else s
    let cells := v.lines.current.cells
    (runsToCapture false v = [] → lineSpelling edited s = some v) ∧
    (∀ r, runsToCapture false v = [r] → lineSpelling edited s = captureRun r v) ∧
    (∀ r rs, runsToCapture false v = r :: rs → captureRun r v = none → lineSpelling edited s = none) ∧
    (v.spelling.queue.length + (runsToCapture false v).length ≤ 8 → ∃ y, lineSpelling edited s = some y) ∧
    ∀ y, lineSpelling edited s = some y → ((allCells v).map (·.id)).Nodup →
      (∀ c ∈ cells, ∀ k, c.word = some k → k < v.composer.nextWord) →
      (∀ c ∈ cells, ∀ d ∈ cells, c.ticket ≠ none → c.ticket = d.ticket → c.word = d.word) →
      runsToCapture false y = [] ∧ y.composer.cursor = s.composer.cursor ∧ y.composer.p = s.composer.p ∧
      y.lines.current.cells.map unspelled = s.lines.current.cells.map unspelled ∧ Frame [.lines, .composer, .spelling] s y) ∧
  ∀ src (code : Code) t s, Admits src code s → 0x20 ≤ code.toNat → mountedTable s = some t →
    let m := compositionFor s src
    let u := takeHead src s
    let w := t.width (effectivePitch s) code
    let overlaps := ∃ d ∈ s.lines.current.cells, 0 < d.width ∧ d.state ≠ .lifting ∧ u.composer.p < d.start + max d.width 1 ∧
      d.start < u.composer.p + max w 1
    let ends := 0 < w ∧ s.spelling.openWord ≠ [] ∧
      (overlaps ∨ classOf s code ≠ .letter ∧ (classOf s code = .apostrophe → s.spelling.pendingApos ≠ none))
    let new : Cell :=
      { id := s.composer.nextCell, code := code, start := u.composer.p, width := w, extra := 0, bold := (attrOf s src).bold,
        underline := (attrOf s src).underline, source := src, state := .held, mark := .none,
        overstrike := decide (0 < w ∧ overlaps), fixed := false, notOnWheel := false, ticket := none, word := none,
        outstanding := 0 }
    refusal t m code u = none →
    (m = .word → s.composer.nextCell ∉ s.spelling.openWord → ends → capture s.spelling.openWord .word u = none →
      ∃ x, Machine.exec (.composePrintable src) s = .next x ∧ Becomes s x) ∧
    (m = .word → s.spelling.queue.length < 8 ∨ s.composer.nextCell ∉ s.spelling.openWord ∧
        (¬ ends ∨ capture s.spelling.openWord .word u ≠ none) →
      ∃ x, Machine.exec (.composePrintable src) s = .next x ∧
      x.composer.p = u.composer.p + w ∧ x.streams = u.streams ∧
      (let place := fun y : Cell => ((y.id, y.code, y.start, y.width, y.extra), (y.bold, y.underline, y.source),
         (y.state, y.outstanding, y.overstrike), y.fixed, y.notOnWheel)
       x.lines.current.cells.map place = s.lines.current.cells.map place ++ [place new]) ∧
      (∃ y, noteCell new .word (typed new u) = some y ∧ x.spelling = y.spelling ∧ x.lines = y.lines ∧
        x.composer = { y.composer with openGroup := x.composer.openGroup, closedGroups := x.composer.closedGroups } ∧
        Becomes (judge { y with composer := x.composer }) x) ∧
      (let closes := classOf s code = .space ∨ classOf s code = .punct ∨ classOf s code = .hyphen
       (closes → x.composer.openGroup = [] ∧
         x.composer.closedGroups = s.composer.closedGroups ++ [s.composer.openGroup ++ [s.composer.nextCell]]) ∧
       (¬ closes → x.composer.openGroup = s.composer.openGroup ++ [s.composer.nextCell] ∧
         x.composer.closedGroups = s.composer.closedGroups)) ∧
      x.dispatch.orders = s.dispatch.orders ∧
      Frame [.streams, .lines, .composer, .spelling, .notices, .dispatch, .correction] s x) ∧
    (m = .line →
      let v := insertCells 1 src code w u
      let base := if u.lines.current.cells = [] then u.settings.left else u.lines.current.snapshot
      let cells := u.lines.current.cells.take u.composer.cursor ++
        [{ new with start := 0, overstrike := false }] ++ u.lines.current.cells.drop u.composer.cursor
      v.lines.current.cells = placeFrom base cells ∧ v.composer.cursor = u.composer.cursor + 1 ∧
      (u.composer.cursor ≤ u.lines.current.cells.length → v.composer.p =
        min 1559 (base + ((u.lines.current.cells.take u.composer.cursor).map (·.width)).sum + w)) ∧
      (∀ y, lineSpelling true v = some y → ∃ x, Machine.exec (.composePrintable src) s = .next x ∧ Becomes (judge y) x) ∧
      (lineSpelling true v = none → ∃ x, Machine.exec (.composePrintable src) s = .next x ∧ Becomes s x) ∧
      (s.spelling.dictState = .off ∨ s.spelling.dictState = .unavailable → ∃ y, lineSpelling true v = some y))

/-- RETURN (R81 to R83). In DIRECT composition, and in WORD composition without a held cell or an issue, it ends the line when no
line is outgoing and a place is free: the word ends, the RETURN order is made, with the due HOME behind it, the line becomes the
outgoing one, PRINTING, with the order's serial, a line without cells begins with the layout setting and L snapshot L, P at L,
cursor 0, margin release clear, bell flag no and no group (R59, R63), and the hold end follows (R46). While a HOME is held it
finds no place, however many are free (notes/assumptions/11.md). With held cells in WORD composition it flushes (R73): the open
word ends and is captured, and the open group, if any, becomes the last closed group; a capture that is not made leaves it open;
without held cells it waits while a group is being issued (R74). In LINE composition every run not yet captured, the run at the
cursor included, is captured in text order up to the first capture that is not made (R145; of carried words: 53.md); it is refused
while a word is UNKNOWN under HOLD, waits while a word is CHECKING (R163), the captures it has made staying made
(notes/assumptions/22.md), and otherwise releases the line: cells not on the wheel are dropped with SKIPPED CHARACTERS, their
words' tickets cancelled (R30; the other words': SpellAnswers); the layout computation has the widths of the mounted table and L,
M, Q and Xmax as they stand, its failure raising JUSTIFY FAILED (R36); what prints becomes the outgoing line, RELEASING, and what
is carried begins the new line at L, in LINE composition, or the hold end follows (R32, R81, R82). A line of which nothing is held
to issue has its RETURN order at once when a place is free. The reasons' numbers are notes/assumptions/28.md; a carried cell past
1559 is brought back (39.md); L is at most 1439 (R23). -/
def Obligations.ReturnEndsTheLine : Prop :=
  (∀ src s, Admits src 0x0D s → compositionFor s src ≠ .line →
    (compositionFor s src = .word → s.lines.current.cells.all (!·.isHeld) = true ∧ s.composer.issue = none) →
    ∃ x, Machine.exec (.carriageReturn src) s = .next x ∧ ReturnTaken src s x) ∧
  (∀ src s, Admits src 0x0D s → compositionFor s src = .word → s.lines.current.cells.any (·.isHeld) = true →
    ∃ x, Machine.exec (.carriageReturn src) s = .next x ∧ Becomes (closeOpen s) x) ∧
  (∀ src s, Admits src 0x0D s → compositionFor s src = .word → s.lines.current.cells.all (!·.isHeld) = true →
    s.composer.issue ≠ none → ∃ x, Machine.exec (.carriageReturn src) s = .next x ∧ Becomes s x) ∧
  (∀ s,
    let open_ := runsToCapture true s
    let v := captureLine s
    open_.Sublist (runs (classOf s) s.lines.current.cells) ∧ (hasOpenRun s = true ↔ open_ ≠ []) ∧ v = captureMany open_ s ∧
    (open_ = [] → v = s) ∧
    (((allCells s).map (·.id)).Nodup → (∀ c ∈ s.lines.current.cells, ∀ k, c.word = some k → k < s.composer.nextWord) →
      (∀ c ∈ s.lines.current.cells, ∀ d ∈ s.lines.current.cells, c.ticket ≠ none → c.ticket = d.ticket → c.word = d.word) →
      hasOpenRun v = true → ∃ before r after, open_ = before ++ r :: after ∧ v = captureMany before s ∧ captureRun r v = none)) ∧
  (∀ r rs s, (captureRun r s = none → captureMany (r :: rs) s = s) ∧
    ∀ v, captureRun r s = some v → captureMany (r :: rs) s = captureMany rs v) ∧
  (∀ m s,
    let ended := fun v : State => ({ v with spelling := { v.spelling with openWord := [], pendingApos := none } } : State)
    let open_ := s.composer.openGroup
    (s.spelling.openWord = [] → endWord m s = some (ended s)) ∧
    (s.spelling.openWord ≠ [] → endWord m s = (capture s.spelling.openWord m s).map ended) ∧
    (open_ = [] ∨ endWord .word s = none → closeOpen s = s) ∧
    ∀ v, open_ ≠ [] → endWord .word s = some v → closeOpen s = { v with composer := { v.composer with
      openGroup := [], closedGroups := s.composer.closedGroups ++ [open_] } }) ∧
  (∀ src t v,
    let u := takeHead src v
    let cells := u.lines.current.cells
    let left := v.settings.left
    let gone := cells.filter fun c => t.has c.code = false
    let laid := layOut left v.settings.right (min (v.settings.right + 240) 1559) v.settings.xmax u.lines.current.layout
      ((cells.filter fun c => t.has c.code = true).map fun c => { c with width := t.width (effectivePitch v) c.code })
    let skipped := if gone = [] then u else raise .skippedCharacters [byte gone.length] u
    let failed := match laid.failed with
      | none => skipped
      | some (reason, n, short) => raise .justifyFailed [byte reason, byte n, byte (short / 256), byte short] skipped
    let fill := fun c : Cell => ((c.id, c.code, c.start, c.width, c.extra), c.bold, c.underline, c.source)
    let waits := (∃ c ∈ laid.printed, c.isHeld = true) ∨ v.dispatch.homeHeld ≠ none ∨ 32 ≤ v.dispatch.orders.length
    let x := releaseLine src t v
    (cells.map (·.id)).Nodup → ∃ l, x.lines.outgoing = some l ∧ l.cells.map fill = laid.printed.map fill ∧
      l.layout = u.lines.current.layout ∧ x.lines.current.cells.map fill = (placeFrom left laid.carried).map fill ∧
      x.lines.current.layout = v.settings.layout ∧ x.lines.current.snapshot = left ∧
      (gone = [] → waits → l.cells = laid.printed ∧ x.lines.current.cells = placeFrom left laid.carried) ∧
      (∀ c ∈ gone, ∀ n, c.ticket = some n → ∀ d ∈ allCells x, d.ticket ≠ some n) ∧
      (waits → l.state = .releasing ∧ l.returnSerial = none ∧ x.composer.release = some ⟨0, src⟩ ∧ x.dispatch = v.dispatch) ∧
      (¬ waits → l.state = .printing ∧ l.returnSerial = some (nextSerial v) ∧ x.composer.release = none ∧
        x.dispatch.orders.map (·.job) = v.dispatch.orders.map (·.job) ++
          [Job.plain .ret left (sourceOf src) (some v.settings.lineSpacing)] ++
          if v.dispatch.homeDue = true ∧ v.dispatch.orders.length < 31 then [Job.plain .home left .automatic none] else []) ∧
      (laid.carried ≠ [] → x.lines.current.composition = some .line ∧ x.streams = u.streams ∧ x.notices = failed.notices) ∧
      (laid.carried = [] → x.lines.current.composition = x.streams.holder.map (modeOf v) ∧
        x.streams = (holdEnd failed).streams ∧ x.notices = (holdEnd failed).notices) ∧
      (left ≤ 1559 → x.composer.p = min 1559 (left + (laid.carried.map (·.width)).sum)) ∧
      x.composer.cursor = laid.carried.length ∧
      x.composer.marginRelease = false ∧ x.composer.bellRung = false ∧ x.composer.openGroup = [] ∧
      x.composer.closedGroups = [] ∧ Frame [.streams, .lines, .composer, .dispatch, .correction, .spelling, .notices] v x) ∧
  ∀ src s, Admits src 0x0D s → compositionFor s src = .line →
    let v := captureLine s
    let unknown := ∃ c ∈ v.lines.current.cells, c.mark = .unknown ∧ unknownPolicy v c.source = .hold
    let waits := hasOpenRun v = true ∨ (∃ c ∈ v.lines.current.cells, c.mark = .checking) ∨ v.lines.outgoing ≠ none ∨
      mountedTable v = none
    (unknown → ∃ x, Machine.exec (.carriageReturn src) s = .next x ∧
      Becomes (judge (refusedCharacters src 9 1 (requestBeep .long (takeHead src v)))) x) ∧
    (¬ unknown → waits → ∃ x, Machine.exec (.carriageReturn src) s = .next x ∧ Becomes v x) ∧
    ∀ t, ¬ unknown → ¬ waits → mountedTable v = some t → ∃ x, Machine.exec (.carriageReturn src) s = .next x ∧
      Becomes (judge (releaseLine src t v)) x ∧ x.lines.outgoing ≠ none

/-- The layout of a released line (R31 to R37). Trailing SPACE cells leave it. A line wider than T breaks at its last interior
SPACE cell that ends at M or before, which goes with the SPACE cells around it; without one, before its first cell that ends past
Q, if any (R32, R33). A carried line that is justified begins at L and ends at M exactly: its interior SPACE cells share the
shortfall in extra steps that differ by one at most, the greater ones first, none above Xmax; every other cell keeps extra 0
(Law 7). A JUSTIFY line that cannot be justified gives the reason (notes/assumptions/28.md numbers them), the spaces and the
shortfall (R36), and is printed as LEFT, as is one that is not carried. CENTRE and FLUSH shift a line by half and by all of the
room it leaves, by nothing when it is wider than T or broken before Q. -/
def Obligations.JustifiedLinesEndAtTheRightMargin : Prop :=
  (∀ cells, ∃ tail, cells = trimTrailing cells ++ tail ∧ (∀ c ∈ tail, c.code = 0x20) ∧
    ∀ c, (trimTrailing cells).getLast? = some c → c.code ≠ 0x20) ∧
  (∀ left right limit cells,
    let text := trimTrailing cells
    let b := breakLine left right limit cells
    let stop := fun i : Nat => left + ((text.take (i + 1)).map (·.width)).sum
    let interior := fun i : Nat => (∃ c, text[i]? = some c ∧ c.code = 0x20) ∧ ∃ j d, j < i ∧ text[j]? = some d ∧ d.code ≠ 0x20
    let breaks := fun i : Nat => interior i ∧ stop i ≤ right
    let wide := right < left + (text.map (·.width)).sum
    let unbroken := b.printed = text ∧ b.carried = [] ∧ b.isCarried = false ∧ b.leftOnly = false
    (¬ wide → unbroken ∧ b.overfull = false) ∧
    (∀ i, wide → breaks i → (∀ j, i < j → ¬ breaks j) → b.printed = trimTrailing (text.take i) ∧
      (∃ spaces, text.drop (i + 1) = spaces ++ b.carried ∧ ∀ c ∈ spaces, c.code = 0x20) ∧
      (∀ c, b.carried.head? = some c → c.code ≠ 0x20) ∧ b.isCarried = true ∧ b.overfull = false ∧ b.leftOnly = false) ∧
    (wide → (∀ i, ¬ breaks i) → b.overfull = true ∧ b.isCarried = false ∧
      (left + (text.map (·.width)).sum ≤ limit → unbroken) ∧
      ∀ i, i < text.length → limit < stop i → (∀ j, j < i → stop j ≤ limit) → b.printed = trimTrailing (text.take i) ∧
        (∃ spaces, text.drop i = spaces ++ b.carried ∧ ∀ c ∈ spaces, c.code = 0x20) ∧
        (∀ c, b.carried.head? = some c → c.code ≠ 0x20) ∧ b.leftOnly = true)) ∧
  (∀ left right limit xmax cells, left ≤ right → (breakLine left right limit cells).isCarried = true →
    let b := breakLine left right limit cells
    let out := layOut left right limit xmax .justify cells
    let n := interiorSpaces b.printed
    let short := right - left - naturalWidth b.printed
    (n = 0 → out.failed = some (0, 0, short)) ∧
    (0 < n → xmax < (short + n - 1) / n → out.failed = some (2, n, short)) ∧
    (0 < n → (short + n - 1) / n ≤ xmax → out.failed = none ∧ out.printed.map (·.code) = b.printed.map (·.code) ∧
      (∀ c, out.printed.head? = some c → c.start = left) ∧
      (∀ i x y, out.printed[i]? = some x → out.printed[i + 1]? = some y → y.start = x.start + x.width + x.extra) ∧
      (∀ c, out.printed.getLast? = some c → c.start + c.width = right ∧ c.extra = 0) ∧
      (∀ c ∈ out.printed, c.extra ≤ xmax ∧ (c.code ≠ 0x20 → c.extra = 0)) ∧
      (out.printed.map (·.extra)).sum = short ∧
      (((out.printed.dropWhile Cell.isSpace).filter Cell.isSpace).map (·.extra)) =
        List.replicate (short % n) (short / n + 1) ++ List.replicate (n - short % n) (short / n))) ∧
  (∀ left right limit xmax cells, (breakLine left right limit cells).overfull = true →
    let b := breakLine left right limit cells
    (layOut left right limit xmax .justify cells).failed =
      some (1, interiorSpaces b.printed, right - left - naturalWidth b.printed)) ∧
  ∀ left right limit xmax layout cells,
    let b := breakLine left right limit cells
    let out := layOut left right limit xmax layout cells
    let room := right - left - (b.printed.map (·.width)).sum
    out.carried = b.carried ∧ (layout ≠ .justify ∨ b.isCarried = false ∧ b.overfull = false → out.failed = none) ∧
    (layout ≠ .justify ∨ b.isCarried = false ∨ out.failed ≠ none →
      out.printed.map (fun c => { c with start := 0 }) = b.printed.map (fun c => { c with start := 0, extra := 0 }) ∧
      (∀ c, out.printed.head? = some c → c.start = left +
        if b.leftOnly = true then 0 else if layout = .centre then room / 2 else if layout = .flush then room else 0) ∧
      (∀ i x y, out.printed[i]? = some x → out.printed[i + 1]? = some y → y.start = x.start + x.width))

/-- TAB, RELOCATE and BACKSPACE as positioning functions, and the feeds (R28, R69, R70, R76, R84): the new P and its MOVE, merged
into a PENDING MOVE at the tail; a BACKSPACE at P 0 moves nothing and ends no word. In WORD composition it deletes the last HELD
cell instead, P being its start; what that does to groups and tickets stands in CorrectionsLiftTheirTargets (deleteHeld; 34.md). A
feed stands in the queue at the target of the order before it. RELOCATE on a line without cells is a SHORT beep (R70). In WORD
composition TAB, RELOCATE and the feeds first flush the held cells (R73), and wait while a group is being issued (R74); each waits
while the word it ends is not captured (R149), nothing of it having happened (22.md). A MOVE or FEED finds no place while a HOME
is held, however many are free (notes/assumptions/11.md); the reason's number is notes/assumptions/28.md. -/
def Obligations.PositioningAndFeeds : Prop :=
  (∀ p src s, (tailIsMove s = false → makeMove p src s = appendJob (Job.plain .move p src none) s) ∧
    ∀ before o, s.dispatch.orders = before ++ [o] → tailIsMove s = true → ∃ o',
      makeMove p src s = { s with dispatch := { s.dispatch with orders := before ++ [o'] } } ∧
      o'.serial = o.serial ∧ o'.fetched = false ∧ o'.job = { o.job with target := p } ∧
      o'.cost = min s.energy.capacity (travelPart s.energy o'.travel) ∧
      (before = [] → o'.travel = distance p s.dispatch.c) ∧
      (∀ b, before.getLast? = some b → o'.travel = distance p b.job.target)) ∧
  (∀ (tabs : List Nat) right p, (right ≤ p → tabTarget tabs right p = p) ∧
    (p < right → tabs.Pairwise (· < ·) → p < tabTarget tabs right p ∧ tabTarget tabs right p ≤ right ∧
      (tabTarget tabs right p ∈ tabs ∨ tabTarget tabs right p = right) ∧
      ∀ x ∈ tabs, p < x → tabTarget tabs right p ≤ x ∨ right < x)) ∧
  (∀ c src code s, (c = Instr.tab src ∧ code = 0x09 ∨ c = Instr.relocate ∧ src = .keyboard ∧ code = 0x17 ∨
      c = Instr.backspace src ∧ code = 0x08) →
    Admits src code s → compositionFor s src ≠ .line →
    (compositionFor s src = .word → s.lines.current.cells.all (!·.isHeld) = true ∧
      (c ≠ Instr.backspace src → s.composer.issue = none)) →
    (endWord (compositionFor s src) (takeHead src s) = none → (c = Instr.relocate → s.lines.current.cells ≠ []) →
      (c = Instr.backspace src → s.composer.p ≠ 0) → ∃ t, Machine.exec c s = .next t ∧ Becomes s t) ∧
    (c = Instr.backspace src → s.composer.p = 0 → ∃ t, Machine.exec c s = .next t ∧ Becomes (judge (takeHead src s)) t) ∧
    ∀ w, endWord (compositionFor s src) (takeHead src s) = some w →
    ∀ x, (c = Instr.tab src → x = tabTarget s.settings.tabs s.settings.right s.composer.p) →
      (c = Instr.relocate → s.lines.current.cells ≠ [] ∧ x = greatestEnd s.lines.current.cells) →
      (c = Instr.backspace src → x = s.composer.p -
        (((s.lines.current.cells.filter fun y => 0 < y.width ∧ y.start + y.width = s.composer.p).getLast?.map
          (·.width)).getD 2) ∧ x ≠ s.composer.p) →
      (x = s.composer.p → ∃ t, Machine.exec c s = .next t ∧ Becomes (judge w) t) ∧
      (x ≠ s.composer.p → tailIsMove s = true ∨ (s.dispatch.homeHeld = none ∧ s.dispatch.orders.length < 32) →
        ∃ t, Machine.exec c s = .next t ∧
          Becomes (judge (makeMove x (sourceOf src) { w with composer := { w.composer with p := x } })) t) ∧
      (x ≠ s.composer.p → tailIsMove s = false → s.dispatch.homeHeld ≠ none ∨ 32 ≤ s.dispatch.orders.length →
        ∃ t, Machine.exec c s = .next t ∧ Becomes s t)) ∧
  (∀ s, Admits .keyboard 0x17 s → compositionFor s .keyboard ≠ .line → s.lines.current.cells = [] →
    (compositionFor s .keyboard = .word → s.composer.issue = none) →
    ∃ t, Machine.exec .relocate s = .next t ∧ Becomes (judge (requestBeep .short (takeHead .keyboard s))) t) ∧
  (∀ src s c, Admits src 0x08 s → compositionFor s src = .word → (s.lines.current.cells.filter (·.isHeld)).getLast? = some c →
    (c.state = .spellHold → ∃ t, Machine.exec (.backspace src) s = .next t ∧
      Becomes (judge (refusedCharacters src 8 1 (requestBeep .long (takeHead src s)))) t) ∧
    (c.state = .held → ∃ t, Machine.exec (.backspace src) s = .next t ∧
      (let v := deleteHeld [c.id] (takeHead src s)
       Becomes (judge { v with composer := { v.composer with p := c.start } }) t) ∧ t.composer.p = c.start ∧
      t.lines.current.cells.map (·.id) = (s.lines.current.cells.map (·.id)).filter (· ≠ c.id) ∧
      t.dispatch.orders = s.dispatch.orders ∧
      Frame [.streams, .lines, .composer, .spelling, .dispatch, .correction, .notices] s t)) ∧
  (∀ c src code s, (c = Instr.tab src ∧ code = 0x09 ∨ c = Instr.relocate ∧ src = .keyboard ∧ code = 0x17 ∨
      c = Instr.index src ∧ code = 0x0A ∨ c = Instr.reverseIndex src ∧ code = 0x0B ∨ c = Instr.halfUp src ∧ code = 0x0E ∨
      c = Instr.halfDown src ∧ code = 0x0F) → Admits src code s → compositionFor s src = .word →
    (s.lines.current.cells.any (·.isHeld) = true → ∃ t, Machine.exec c s = .next t ∧ Becomes (closeOpen s) t) ∧
    (s.lines.current.cells.all (!·.isHeld) = true → s.composer.issue ≠ none →
      ∃ t, Machine.exec c s = .next t ∧ Becomes s t)) ∧
  ∀ c src code (feed : Int) s, (c = Instr.index src ∧ code = 0x0A ∧ feed = 2 ∨
      c = Instr.reverseIndex src ∧ code = 0x0B ∧ feed = -2 ∨ c = Instr.halfUp src ∧ code = 0x0E ∧ feed = -1 ∨
      c = Instr.halfDown src ∧ code = 0x0F ∧ feed = 1) → Admits src code s →
    (compositionFor s src = .word → s.lines.current.cells.all (!·.isHeld) = true ∧ s.composer.issue = none) →
    (s.dispatch.homeHeld ≠ none ∨ 32 ≤ s.dispatch.orders.length ∨
      endWord (compositionFor s src) (takeHead src s) = none → ∃ t, Machine.exec c s = .next t ∧ Becomes s t) ∧
    ∀ w, s.dispatch.homeHeld = none → s.dispatch.orders.length < 32 →
      endWord (compositionFor s src) (takeHead src s) = some w → ∃ t, Machine.exec c s = .next t ∧
        (∀ o, s.dispatch.orders.getLast? = some o →
          Becomes (judge (appendJob (Job.plain .feed o.job.target (sourceOf src) (some feed)) w)) t) ∧
        (s.dispatch.orders = [] →
          Becomes (judge (appendJob (Job.plain .feed s.dispatch.c (sourceOf src) (some feed)) w)) t)

/-- The attribute functions, MARGIN RELEASE, CENTRE, FLUSH RIGHT, the cursor functions, DELETE, BACKSPACE in LINE composition and
CLEAR LINE (R63, R71, R78 to R80): each in the compositions where it has a meaning; elsewhere, a SHORT beep (R65). TAB in LINE
composition becomes SPACE cells with the attributes of its source, or is refused when the line would hold too many (LINE FULL) or
would pass Q (OVERRUN); under NO TABLE it waits (R12). Inserting and removing set the provisional starts from the L snapshot
again, and P follows the cursor (R77, R78). RELOCATE with the cursor at the end of the line is taken and changes nothing, and no
run is captured by it (R78, R145). An editing or cursor function whose captures are not made stays at the head (R149); that then
nothing of it has happened, the captures before the one that failed included, is the model's reading (notes/assumptions/22.md).
CLEAR LINE removes the held cells, their tickets cancelled and a group being issued left with the others (dropCells, in
SpellAnswers; R80, R159), sets P and the cursor by the composition, and does nothing else to the orders, the strike records, the
outgoing line and the cells that stay; a line it leaves empty begins afresh with the keyboard's mode, and the hold end follows:
without a page hold that waits nobody holds the line, and it has no composition (R45, R46, R80). P past 1559 is brought to it
(notes/assumptions/39.md); the reasons' numbers are notes/assumptions/28.md. -/
def Obligations.AttributesLayoutsAndLineEditing : Prop :=
  (∀ c src code (f : Attr → Attr) s,
    (c = Instr.boldOn src ∧ code = 0x10 ∧ f = (fun a => { a with bold := true }) ∨
      c = Instr.boldOff src ∧ code = 0x11 ∧ f = (fun a => { a with bold := false }) ∨
      c = Instr.underlineOn src ∧ code = 0x12 ∧ f = (fun a => { a with underline := true }) ∨
      c = Instr.underlineOff src ∧ code = 0x13 ∧ f = (fun a => { a with underline := false })) → Admits src code s →
    let u := takeHead src s
    ∃ t, Machine.exec c s = .next t ∧
      (src = .keyboard → Becomes (judge { u with composer := { u.composer with kbAttr := f s.composer.kbAttr } }) t) ∧
      (src = .interface → Becomes (judge { u with composer := { u.composer with ifAttr := f s.composer.ifAttr } }) t)) ∧
  (∀ s, Admits .keyboard 0x1B s → ∃ t, Machine.exec .marginRelease s = .next t ∧
    (let u := takeHead .keyboard s
     (compositionFor s .keyboard ≠ .line →
       Becomes (judge { u with composer := { u.composer with marginRelease := true } }) t) ∧
     (compositionFor s .keyboard = .line → Becomes (judge (requestBeep .short u)) t))) ∧
  (∀ c src code layout s, (c = Instr.centre src ∧ code = 0x1C ∧ layout = Layout.centre ∨
      c = Instr.flushRight src ∧ code = 0x1D ∧ layout = .flush) → Admits src code s → ∃ t, Machine.exec c s = .next t ∧
    (let u := takeHead src s
     let v : State := { u with lines := { u.lines with current := { u.lines.current with layout := layout } } }
     (compositionFor s src = .line → Becomes (judge v) t) ∧
     (compositionFor s src ≠ .line → s.lines.current.cells = [] → Becomes (judge { v with
       lines := { v.lines with current := { v.lines.current with composition := some .line } }
       composer := { v.composer with cursor := 0, p := v.lines.current.snapshot } }) t) ∧
     (compositionFor s src ≠ .line → s.lines.current.cells ≠ [] → Becomes (judge (requestBeep .short u)) t))) ∧
  (∀ c code s, (c = Instr.cursorLeft ∧ code = 0x18 ∨ c = Instr.cursorRight ∧ code = 0x19 ∨ c = Instr.delete ∧ code = 0x1A ∨
      c = Instr.relocate ∧ code = 0x17) → Admits .keyboard code s →
    let u := takeHead .keyboard s
    let k := u.composer.cursor
    let cells := u.lines.current.cells
    let at_ := fun n : Nat => ({ u with
      lines := { u.lines with current := { u.lines.current with cells := placeFrom u.lines.current.snapshot cells } }
      composer := { u.composer with
        cursor := n, p := min 1559 (u.lines.current.snapshot + ((cells.take n).map (·.width)).sum) } } : State)
    ∃ t, Machine.exec c s = .next t ∧
      (compositionFor s .keyboard ≠ .line → c ≠ .relocate → Becomes (judge (requestBeep .short u)) t) ∧
      (compositionFor s .keyboard = .line →
        (c = .cursorLeft → k = 0 → Becomes (judge (requestBeep .short u)) t) ∧
        (c = .cursorRight → cells.length ≤ k → Becomes (judge (requestBeep .short u)) t) ∧
        (c = .delete → cells.length ≤ k → Becomes (judge (requestBeep .short u)) t) ∧
        (c = .relocate → k = cells.length → Becomes (judge u) t) ∧
        (∀ n, (c = .cursorLeft ∧ 0 < k ∧ n = k - 1 ∨ c = .cursorRight ∧ k < cells.length ∧ n = k + 1 ∨
            c = .relocate ∧ k ≠ cells.length ∧ n = cells.length) →
          (∀ v, lineSpelling false (at_ n) = some v → Becomes (judge v) t) ∧
          (lineSpelling false (at_ n) = none → Becomes s t)) ∧
        (∀ d v, c = .delete → cells[k]? = some d →
          (removeLineCells [d.id] k u = some v → Becomes (judge v) t) ∧
          (removeLineCells [d.id] k u = none → Becomes s t)))) ∧
  (∀ src s, Admits src 0x08 s → compositionFor s src = .line →
    let u := takeHead src s
    ∃ t, Machine.exec (.backspace src) s = .next t ∧
      (u.composer.cursor = 0 → Becomes (judge (requestBeep .short u)) t) ∧
      ∀ k d, u.composer.cursor = k + 1 → u.lines.current.cells[k]? = some d →
        (∀ v, removeLineCells [d.id] k u = some v → Becomes (judge v) t) ∧
        (removeLineCells [d.id] k u = none → Becomes s t)) ∧
  (∀ src s, Admits src 0x09 s → compositionFor s src = .line → mountedTable s = none →
    ∃ t, Machine.exec (.tab src) s = .next t ∧ Becomes s t) ∧
  (∀ n src (code : Code) w s,
    let v := insertCells n src code w s
    let k := s.composer.cursor
    let old := s.lines.current.cells
    let base := if old = [] then s.settings.left else s.lines.current.snapshot
    let attr := match src with
      | .keyboard => s.composer.kbAttr
      | .interface => s.composer.ifAttr
    let new := (List.range n).map fun i =>
      { id := s.composer.nextCell + i, code := code, start := 0, width := w, extra := 0, bold := attr.bold,
        underline := attr.underline, source := src, state := .held, mark := .none, overstrike := false, fixed := false,
        notOnWheel := false, ticket := none, word := none, outstanding := (0 : Nat) : Cell }
    let cells := old.take k ++ new ++ old.drop k
    v.lines = { s.lines with current := { s.lines.current with cells := placeFrom base cells, snapshot := base } } ∧
    v.composer = { s.composer with cursor := k + n, nextCell := s.composer.nextCell + n,
                                   p := min 1559 (base + ((cells.take (k + n)).map (·.width)).sum) } ∧
    Frame [.lines, .composer] s v) ∧
  (∀ src s, Admits src 0x09 s → compositionFor s src = .line → ∀ tbl, mountedTable s = some tbl →
    let u := takeHead src s
    let x := tabTarget s.settings.tabs s.settings.right u.composer.p
    let w := tbl.width (effectivePitch s) 0x20
    let n := (x - u.composer.p + w - 1) / w
    ∃ t, Machine.exec (.tab src) s = .next t ∧ (x ≤ u.composer.p → Becomes (judge u) t) ∧
      (u.composer.p < x → 160 < u.lines.current.cells.length + n →
        Becomes (judge (refusedCharacters src 4 1 (requestBeep .long u))) t) ∧
      (u.composer.p < x → u.lines.current.cells.length + n ≤ 160 → overrunLimit u < lineEndWith u (n * w) →
        Becomes (judge (refusedCharacters src 7 1 (requestBeep .long u))) t) ∧
      (u.composer.p < x → u.lines.current.cells.length + n ≤ 160 → lineEndWith u (n * w) ≤ overrunLimit u →
        (∀ v, lineSpelling true (insertCells n src 0x20 w u) = some v → Becomes (judge v) t) ∧
        (lineSpelling true (insertCells n src 0x20 w u) = none → Becomes s t))) ∧
  (∀ ids k s v, removeLineCells ids k s = some v → v.lines.current.cells.map (·.id) =
    (s.lines.current.cells.map (·.id)).filter (fun i => !ids.contains i) ∧ v.composer.cursor = k ∧
    (let left := s.lines.current.cells.filter fun c => !ids.contains c.id
     let base := s.lines.current.snapshot
     v.lines.current.cells.map unspelled = (placeFrom base left).map unspelled ∧
     v.composer.p = min 1559 (base + ((left.take k).map (·.width)).sum)) ∧
    v.dispatch = s.dispatch ∧ v.streams = s.streams) ∧
  ∀ s, Admits .keyboard 0x1E s → ∃ t, Machine.exec .clearLine s = .next t ∧
    (let u := takeHead .keyboard s
     let m := compositionFor s .keyboard
     let held := s.lines.current.cells.filter (·.isHeld)
     let passes := s.streams.pageHold = .waiting
     let atLeft := t.lines.current.cells = [] ∧ (s.settings.kbMode = .line ∨ passes ∧ s.settings.ifMode = .line)
     (held = [] → s.lines.current.cells ≠ [] → Becomes (judge (requestBeep .short u)) t) ∧
     (held ≠ [] ∨ s.lines.current.cells = [] → (s.lines.current.cells.map (·.id)).Nodup →
       t.lines.current.cells.map (·.id) = (s.lines.current.cells.filter (!·.isHeld)).map (·.id) ∧
       (m = .word → t.composer.openGroup = [] ∧ t.composer.closedGroups = []) ∧
       (atLeft → t.composer.p = s.settings.left ∧ t.composer.cursor = 0) ∧
       (¬ atLeft → m = .line → t.composer.p = u.lines.current.snapshot ∧ t.composer.cursor = 0) ∧
       (¬ atLeft → m = .word → t.composer.p = (held.head?.map (·.start)).getD u.composer.p) ∧
       (¬ atLeft → m = .direct → t.composer.p = u.composer.p)) ∧
     (held ≠ [] ∨ s.lines.current.cells = [] →
       let w := dropCells (held.map (·.id)) u
       let v : State := { w with composer := match m with
         | .line => { w.composer with cursor := 0, p := u.lines.current.snapshot }
         | .word => { w.composer with openGroup := [], closedGroups := [], p := (held.head?.map (·.start)).getD u.composer.p }
         | .direct => w.composer }
       let mode := s.settings.kbMode
       let left := s.settings.left
       (w.lines.current.cells ≠ [] → Becomes (judge v) t) ∧
       (w.lines.current.cells = [] → Becomes (judge (holdEnd { v with
         lines := { w.lines with current := ⟨[], s.settings.layout, some mode, left, .composing, none⟩ }
         composer := { v.composer with
           marginRelease := false, bellRung := false
           cursor := if mode = .line then 0 else v.composer.cursor
           p := if mode = .line then left else v.composer.p } })) t)) ∧
     (t.lines.current.cells = [] → t.lines.current.layout = s.settings.layout ∧
       t.lines.current.snapshot = s.settings.left ∧ t.composer.marginRelease = false ∧ t.composer.bellRung = false ∧
       (passes → t.lines.current.composition = some s.settings.ifMode ∧ t.streams = { u.streams with
         holder := some .interface, pageHold := .on, lapseTimer := some s.streams.lapseTime }) ∧
       (¬ passes → t.lines.current.composition = none ∧ t.streams = { u.streams with holder := none })) ∧
     (t.lines.current.cells ≠ [] → t.streams = u.streams ∧ t.lines.current.composition = s.lines.current.composition) ∧
     Frame [.streams, .lines, .composer, .spelling, .signals, .notices, .dispatch, .correction] s t)

/-- CORRECT, WORD_CORRECT and LINE_CORRECT (R126 to R136). The targets in DIRECT and WORD composition: of CORRECT the last typed
eligible cell that spans P − 1 or has width 0 and starts at P (R127); of WORD CORRECT the eligible cells from the word start b to
P (R128); of LINE CORRECT the RELEASED and PRINTED cells (R129); none for the first two while the last held cell is in SPELL HOLD
(R126); in LINE composition, those of R130. A cell's strikes, the last made first, by condition (R133). The four checks of R131 in
order, a failure refusing all with a LONG beep and CANNOT LIFT (the reasons' numbers: notes/assumptions/28.md). In LINE
composition the cells are deleted; where a capture is not made the function waits (R149), nothing of it done by the model's
reading (22.md). In DIRECT and WORD composition PENDING strikes are withdrawn, a LIFT is made for each other strike, then the MOVE
to the least start, unless P stands there, merged into a PENDING MOVE at the tail when no LIFT was made (R136); what finds no
place waits in the held list, and so, a merged MOVE apart, do all of these orders while a HOME is held, however many places are
free: that reading of R107 is the model's (notes/assumptions/11.md). A target with a LIFT becomes LIFTING, its ticket cancelled,
its count lower by its PENDING strikes; one without is removed; a held one is deleted (R132, R133). Every other cell stays, but
for a ticket shared with such a target (R159), the start of a held cell of a WORD line, and FIXED where a serial is taken from its
strike record (R88, R122); no other record is lost. A closed group that loses cells and is then the last becomes the open group
again when none is open, the ticket of its last held word cancelled (R76; 34.md). In WORD composition P is the first deleted
cell's start when all targets were HELD; otherwise the held cells left follow from the least start and P is their end, 1559 at
most (39.md), a group being issued too (the model's reading: 49.md). -/
def Obligations.CorrectionsLiftTheirTargets : Prop :=
  (∀ c code select s, (c = Instr.correct ∧ code = 0x14 ∧ select = selectCorrect ∨
      c = Instr.wordCorrect ∧ code = 0x15 ∧ select = selectWord ∨ c = Instr.lineCorrect ∧ code = 0x16 ∧ select = selectLine) →
    Admits .keyboard code s →
    let m := compositionFor s .keyboard
    let u := takeHead .keyboard s
    let targets := select m u
    (∀ reason wheel, checkCorrection u targets = some (reason, wheel) → ∃ t, Machine.exec c s = .next t ∧
      Becomes (judge (raise .cannotLift [byte reason, byte wheel] (requestBeep .long u))) t) ∧
    (checkCorrection u targets = none → m ≠ .line → ∃ t, Machine.exec c s = .next t ∧
      Becomes (judge (carryOut m targets u)) t) ∧
    (checkCorrection u targets = none → m = .line →
      (∀ v, removeLineCells (targets.map (·.id)) (u.composer.cursor - targets.length) u = some v →
        ∃ t, Machine.exec c s = .next t ∧ Becomes (judge v) t) ∧
      (removeLineCells (targets.map (·.id)) (u.composer.cursor - targets.length) u = none →
        ∃ t, Machine.exec c s = .next t ∧ Becomes s t))) ∧
  (∀ m s, m ≠ .line →
    let cells := s.lines.current.cells
    let p := s.composer.p
    let eligible := fun c : Cell => c.state = .released ∨ c.state = .printed ∨ c.state = .held
    let candidate := fun c : Cell => eligible c ∧
      (c.start + 1 ≤ p ∧ p ≤ c.start + max c.width 1 ∨ c.width = 0 ∧ c.start = p)
    let ends := fun c : Cell => eligible c ∧ c.code ≠ 0x20 ∧ c.start + c.width ≤ p
    let bounds := fun (e c : Cell) => eligible c ∧ c.code = 0x20 ∧ c.start + c.width ≤ e.start
    let stopped := m = .word ∧
      ∃ c, (cells.filter fun c => c.state = .held ∨ c.state = .spellHold).getLast? = some c ∧ c.state = .spellHold
    (stopped → selectCorrect m s = [] ∧ selectWord m s = []) ∧
    (¬ stopped → (∀ c ∈ cells, ¬ candidate c) → selectCorrect m s = []) ∧
    (∀ before c after, ¬ stopped → cells = before ++ c :: after → candidate c → (∀ d ∈ after, ¬ candidate d) →
      selectCorrect m s = [c]) ∧
    (¬ stopped → (∀ c ∈ cells, ¬ ends c) → selectWord m s = []) ∧
    (∀ before e after b, ¬ stopped → cells = before ++ e :: after → ends e →
      (∀ d ∈ before, ends d → d.start + d.width ≤ e.start + e.width) →
      (∀ d ∈ after, ends d → d.start + d.width < e.start + e.width) →
      (∀ d ∈ cells, bounds e d → d.start + d.width ≤ b) → (b = 0 ∨ ∃ d ∈ cells, bounds e d ∧ d.start + d.width = b) →
      selectWord m s = cells.filter fun c => (c.state = .released ∨ c.state = .printed ∨ c.state = .held) ∧ b ≤ c.start ∧
        c.start + c.width ≤ p) ∧
    selectLine m s = cells.filter fun c => c.state = .released ∨ c.state = .printed) ∧
  (∀ s,
    let before := s.lines.current.cells.take s.composer.cursor
    selectCorrect .line s = before.getLast?.toList ∧ selectLine .line s = [] ∧
    ∀ pre word spaces, before = pre ++ word ++ spaces → (∀ c ∈ spaces, c.code = 0x20) → (∀ c ∈ word, c.code ≠ 0x20) →
      (∀ c, pre.getLast? = some c → c.code = 0x20) → (word = [] → pre = []) → selectWord .line s = word ++ spaces) ∧
  (∀ s c role,
    let order := fun o : Order => o ∈ s.dispatch.orders ∧ o.job.kind = .strike ∧ o.job.cell = some c.id ∧ o.job.role = some role
    let record := fun r : StrikeRecord => r ∈ s.correction.memory ∧ r.cell = some c.id ∧ r.role = some role ∧ r.pending = false
    (∀ o, order o → (∀ o', order o' → o' = o) →
      struckBy s c role = some (if o.fetched = true then .fetched o else .pending o)) ∧
    (∀ r, (∀ o, ¬ order o) → record r → (∀ r', record r' → r' = r) → struckBy s c role = some (.standing r)) ∧
    ((∀ o, ¬ order o) → (∀ r, ¬ record r) → struckBy s c role = none) ∧
    cellStrikes s c = [Role.underline, .bold, .second, .main].filterMap (struckBy s c)) ∧
  (∀ s (targets : List Cell),
    let strikes := ((targets.filter fun c => c.state = .released ∨ c.state = .printed).reverse).flatMap (cellStrikes s)
    let others := (strikes.filterMap fun x => match x with
      | .pending _ => none
      | .fetched o => some o.job.wheel
      | .standing r => some r.wheel).filter (· ≠ some s.wheels.mounted)
    let isFixed := ∃ c ∈ targets, c.fixed = true ∧ (c.state = .released ∨ c.state = .printed)
    let lifts := ∃ x ∈ strikes, ∀ o, x ≠ .pending o
    (targets = [] → checkCorrection s targets = some (0, 63)) ∧ (isFixed → checkCorrection s targets = some (1, 63)) ∧
    (∀ w, ¬ isFixed → others.head? = some w → checkCorrection s targets = some (2, w.getD 63)) ∧
    (targets ≠ [] → ¬ isFixed → others = [] →
      (lifts → s.signals.tape.level ≠ .negated → checkCorrection s targets = some (3, 63)) ∧
      (¬ lifts ∨ s.signals.tape.level = .negated → checkCorrection s targets = none))) ∧
  (∀ boost o, liftJob boost (.pending o) = none ∧ liftJob boost (.fetched o) = some { o.job with
    kind := .lift, energy := o.job.energy.map (fun n => min 4 (n + boost)), width := none, feed := none,
    source := .correction, link := some (.serial o.serial) }) ∧
  (∀ boost r, liftJob boost (.standing r) = some
    { kind := .lift, target := r.position, petal := r.petal, second := r.second,
      energy := r.energy.map (fun n => min 4 (n + boost)), wheel := r.wheel, width := none, feed := none,
      source := .correction, role := r.role, cell := r.cell, link := some (.record r.id r.serial) }) ∧
  (∀ ids s,
    let stay := fun g : List Nat => g.filter (· ∉ ids)
    let open_ := stay s.composer.openGroup
    let closed := (s.composer.closedGroups.map stay).filter (· ≠ [])
    let again := fun g : List Nat => open_ = [] ∧ ∃ x ∈ s.composer.closedGroups, stay x = g ∧ x ≠ g
    let v := deleteHeld ids s
    v.lines.current.cells.map (·.id) = stay (s.lines.current.cells.map (·.id)) ∧
    v.composer.issue = s.composer.issue.map (fun g => { g with left := stay g.left }) ∧
    (∀ before g, closed = before ++ [g] → again g → v.composer.openGroup = g ∧ v.composer.closedGroups = before ∧
      ∀ c, (v.lines.current.cells.filter (·.isHeld)).getLast? = some c → c.state = .held → c.ticket = none) ∧
    ((∀ g, closed.getLast? = some g → ¬ again g) → v.composer.openGroup = open_ ∧ v.composer.closedGroups = closed) ∧
    (let w := dropCells ids s
     let last := (w.lines.current.cells.filter (·.isHeld)).getLast?
     ((∀ g, closed.getLast? = some g → ¬ again g) → v = w) ∧
     ∀ before g, closed = before ++ [g] → again g →
       let x := { w with composer := { w.composer with openGroup := g, closedGroups := before } }
       (∀ c n, last = some c → c.ticket = some n → c.state ≠ .spellHold → v = cancelTickets [n] x) ∧
       ((∀ c, last = some c → c.ticket = none ∨ c.state = .spellHold) → v = x)) ∧
    Frame [.lines, .composer, .spelling] s v) ∧
  (∀ (targets : List Cell) c s, (∀ d ∈ targets, d.state = .held) → targets.head? = some c →
    let v := deleteHeld (targets.map (·.id)) s
    carryOut .word targets s = { v with composer := { v.composer with p := c.start } }) ∧
  ∀ m targets s, s.correction.held = [] → m ≠ .line → (∃ c ∈ targets, c.state = .released ∨ c.state = .printed) →
    let v := carryOut m targets s
    let strikes := (processed targets).flatMap (cellStrikes s)
    let lifts := (processed targets).flatMap (cellLifts s)
    let kept := s.dispatch.orders.filter fun o => o.fetched = true ∨ Struck.pending o ∉ strikes
    let onPaper := fun c : Cell => c.state = .released ∨ c.state = .printed
    ∃ p, (∃ c ∈ targets, c.start = p) ∧ (∀ c ∈ targets, p ≤ c.start) ∧ (m = .direct → v.composer.p = p) ∧
      (let move := if p = s.composer.p then [] else [Job.plain .move p .keyboard none]
       let merges := p ≠ s.composer.p ∧ lifts = [] ∧
         ∃ o, kept.getLast? = some o ∧ o.job.kind = .move ∧ o.fetched = false
       (¬ merges → v.dispatch.orders.map (·.job) ++ v.correction.held = kept.map (·.job) ++ lifts ++ move ∧
         (s.dispatch.homeHeld ≠ none → v.dispatch.orders.map (·.job) = kept.map (·.job)) ∧
         (s.dispatch.homeHeld = none → s.dispatch.orders.length ≤ 32 →
           v.correction.held = [] ∨ v.dispatch.orders.length = 32)) ∧
       (merges → v.correction.held = [] ∧ v.dispatch.orders =
         (makeMove p .keyboard { s with dispatch := { s.dispatch with orders := kept } }).dispatch.orders) ∧
       (let memory := s.correction.memory.map fun r => { r with pending := r.pending || decide (Struck.standing r ∈ strikes) }
        let z := { s with
          dispatch := { s.dispatch with orders := kept }, correction := { s.correction with memory := memory } }
        let n := if s.dispatch.homeHeld = none then 32 - kept.length else 0
        let made := (lifts ++ move).take n
        (¬ merges → v.dispatch = (appendJobs made z).dispatch ∧
          v.correction = { (appendJobs made z).correction with held := (lifts ++ move).drop n }) ∧
        (merges → v.dispatch = (makeMove p .keyboard z).dispatch ∧ v.correction = z.correction) ∧
        v.correction.memory = memory.drop (memory.length - v.correction.memory.length) ∧
        ((∃ k, serialInUse v k = false) → v.correction.memory = memory))) ∧
      (∀ r ∈ v.correction.memory, ∃ r₀ ∈ s.correction.memory,
        r = { r₀ with pending := r₀.pending || decide (Struck.standing r₀ ∈ strikes) }) ∧
      (∀ j ∈ lifts, j.kind = .lift) ∧
      (SerialsOk s → ReferencesOk s → targets.Sublist s.lines.current.cells → ∀ c ∈ targets,
        (onPaper c → cellLifts s c ≠ [] → ∃ d ∈ v.lines.current.cells, d.id = c.id ∧ d.code = c.code ∧ d.start = c.start ∧
          d.width = c.width ∧ d.state = .lifting ∧ d.ticket = none ∧ d.outstanding = c.outstanding -
            s.dispatch.orders.countP fun o => o.fetched = false ∧ o.job.kind = .strike ∧ o.job.cell = some c.id) ∧
        (onPaper c → cellLifts s c = [] → ∀ d ∈ allCells v, d.id ≠ c.id) ∧
        (c.state = .held → ∀ d ∈ allCells v, d.id ≠ c.id)) ∧
      (let bare := ((processed targets).filter fun c => cellLifts s c = []).map (·.id)
       let heldIds := (targets.filter (·.state = .held)).map (·.id)
       let u := if heldIds = [] then s else deleteHeld heldIds s
       let stay := fun g : List Nat => g.filter (· ∉ bare)
       let lifted := ((processed targets).filter fun c => cellLifts s c ≠ []).map (·.id)
       let withdrawn := s.dispatch.orders.filter fun o => o.fetched = false ∧ Struck.pending o ∈ strikes
       let lost := (allCells u).filter fun c => c.id ∈ lifted ++ bare
       let dropped := s.correction.memory.take (s.correction.memory.length - v.correction.memory.length)
       let lift := fun c : Cell => { c with
         state := if c.id ∈ lifted then .lifting else c.state
         outstanding := c.outstanding - withdrawn.countP fun o => o.job.cell = some c.id }
       let stays := fun cells : List Cell => (cells.filter (·.id ∉ bare)).map fun c =>
         { uncaptured lost (lift c) with fixed := c.fixed || dropped.any (·.cell = some c.id) }
       let unplaced := fun cells : List Cell => cells.map fun c => { c with start := 0, extra := 0 }
       let placed := fun cells : List Cell => (cells.filter fun c => m = .direct ∨ c.isHeld = false).map fun c =>
         (c.id, c.start, c.extra)
       let lifting := fun l : Line => ({ l with cells := l.cells.map lift } : Line)
       let y := { u with lines := { current := lifting u.lines.current, outgoing := u.lines.outgoing.map lifting } }
       v.composer = { u.composer with
         p := v.composer.p
         openGroup := stay u.composer.openGroup
         closedGroups := (u.composer.closedGroups.map stay).filter (· ≠ [])
         issue := u.composer.issue.map fun g => { g with left := stay g.left } } ∧
       (((allCells s).map (·.id)).Nodup →
         v.lines.current = { u.lines.current with cells := v.lines.current.cells } ∧
         v.lines.outgoing = u.lines.outgoing.map (fun l => { l with cells := stays l.cells }) ∧
         unplaced v.lines.current.cells = unplaced (stays u.lines.current.cells) ∧
         placed v.lines.current.cells = placed (stays u.lines.current.cells) ∧
         v.spelling = (cancelTickets (((allCells u).filter (·.id ∈ lifted)).filterMap (·.ticket)).dedup
           (dropCells bare y)).spelling)) ∧
      (m = .word → (v.lines.current.cells.map (·.id)).Nodup →
        let held := v.lines.current.cells.filter (·.isHeld)
        v.composer.p = min 1559 (p + (held.map (·.width)).sum) ∧
        ∀ (i : Nat) c, held[i]? = some c → c.extra = 0 ∧
          c.start = min (p + ((held.take i).map (·.width)).sum) (1559 - c.width)) ∧
      Frame [.lines, .composer, .dispatch, .correction, .spelling] s v

/-- The release and the issue of groups and lines (R74, R75, R82, R83): a group allowed by spelling is released where it stands,
its cells placed one behind the other, P behind the held cells after them (where every cell is dropped, these and P from the start
the group was to be placed from: the model's choice, 56.md), or wraps by a line end when its last cell other than SPACE would pass
M, which waits for the outgoing line, the orders of a correction and a place, and places the group from L in a line that has its
held cells, margin release clear, bell flag no and cursor 0 (R63); cells not on the wheel are dropped with SKIPPED CHARACTERS, one
whose end would pass 1559 with REFUSED CHARACTERS, CARRIAGE LIMIT, each by itself (31.md; the reasons' numbers: 28.md), and their
tickets are cancelled; the other cells of the line and the outgoing line stay as they were, but for a ticket shared with a dropped
cell (R159). Issues pause under NO TABLE, and a group's while the orders of a correction wait (R12, R135). Cells are issued one by
one with their strikes when the queue has room for all of them, a code not on the wheel becoming PRINTED without any; after the
last, a group's MOVE or the line's RETURN is made. That the MOVE is made when P is where the carriage stands, R69 notwithstanding,
is notes/assumptions/18.md; that cells and orders find no place while a HOME is held, however many are free, is 11.md; that P past
1559 is brought to it, 39.md. -/
def Obligations.GroupsAndLinesAreIssuedCellByCell : Prop :=
  (∀ s g rest tbl, s.resetHeld = false → s.composer.closedGroups = g :: rest → s.composer.issue = none →
    mountedTable s = some tbl → s.lines.current.composition = some .word →
    let cells := groupCells s g
    let allowed := ∀ c ∈ cells, c.state ≠ .spellHold ∧ c.mark ≠ .checking ∧
      ¬ (c.mark = .unknown ∧ unknownPolicy s c.source = .hold)
    (allowed → wraps tbl s cells = false → ∃ t, Machine.exec .wordGroupRelease s = .next t ∧
      Becomes (releaseGroup tbl (groupStart cells) g rest s) t) ∧
    (¬ allowed ∨ wraps tbl s cells = true → ∃ t, Machine.exec .wordGroupRelease s = .next t ∧ Becomes s t) ∧
    (¬ allowed ∨ wraps tbl s cells = false ∨ s.lines.outgoing ≠ none ∨ s.correction.held ≠ [] ∨
        s.composer.release ≠ none ∨ s.dispatch.homeHeld ≠ none ∨ 32 ≤ s.dispatch.orders.length →
      ∃ t, Machine.exec .wordWrap s = .next t ∧ Becomes s t) ∧
    (allowed → wraps tbl s cells = true → s.correction.held = [] → s.composer.release = none → s.lines.outgoing = none →
      s.dispatch.homeHeld = none → s.dispatch.orders.length < 32 → (s.lines.current.cells.map (·.id)).Nodup →
      ∃ t, Machine.exec .wordWrap s = .next t ∧
        t.dispatch.orders.map (·.job) = s.dispatch.orders.map (·.job) ++
          [Job.plain .ret s.settings.left (sourceOf (s.streams.holder.getD .keyboard)) (some s.settings.lineSpacing)] ++
          (if s.dispatch.homeDue = true ∧ s.dispatch.orders.length < 31 then
            [Job.plain .home s.settings.left .automatic none] else []) ∧
        t.lines.outgoing.map (·.cells.map (·.id)) = some ((s.lines.current.cells.filter (!·.isHeld)).map (·.id)) ∧
        (t.lines.current.cells.map (·.id)).Sublist ((s.lines.current.cells.filter (·.isHeld)).map (·.id)) ∧
        t.lines.current.composition = some .word ∧ t.lines.current.snapshot = s.settings.left ∧
        t.streams = s.streams ∧ t.composer.closedGroups = rest ∧ t.composer.issue ≠ none ∧
        (let held := s.lines.current.cells.filter (·.isHeld)
         let left := s.settings.left
         ∃ v, Becomes (judge (releaseGroup tbl left g rest v)) t ∧
           v.lines.current = ⟨placeFrom left held, s.settings.layout, some .word, left, .composing, none⟩ ∧
           v.lines.outgoing = some { s.lines.current with
             cells := s.lines.current.cells.filter (!·.isHeld), state := .printing, returnSerial := some (nextSerial s) } ∧
           v.composer = { s.composer with
             p := min 1559 (left + (held.map (·.width)).sum), cursor := 0, marginRelease := false, bellRung := false } ∧
           Frame [.lines, .composer, .dispatch, .correction] s v) ∧
        t.composer.marginRelease = false ∧ t.composer.bellRung = false ∧ t.composer.cursor = 0)) ∧
  (∀ s, s.resetHeld = false → s.composer.closedGroups = [] ∨ s.composer.issue ≠ none ∨ mountedTable s = none ∨
      s.lines.current.composition ≠ some .word →
    (∃ t, Machine.exec .wordGroupRelease s = .next t ∧ Becomes s t) ∧
    ∃ t, Machine.exec .wordWrap s = .next t ∧ Becomes s t) ∧
  (∀ tbl s cells, (s.settings.autoReturn = false ∨ s.composer.marginRelease = true ∨ groupStart cells ≤ s.settings.left) →
    wraps tbl s cells = false) ∧
  (∀ tbl s (before : List Cell) c after, s.settings.autoReturn = true → s.composer.marginRelease = false →
    c.code ≠ 0x20 → (∀ d ∈ after, d.code = 0x20) → (∀ d ∈ before ++ c :: after, tbl.has d.code = true) →
    let cells := before ++ c :: after
    (wraps tbl s cells = true ↔ s.settings.left < groupStart cells ∧ s.settings.right < groupStart cells +
      ((before ++ [c]).map fun d => tbl.width (effectivePitch s) d.code).sum)) ∧
  (∀ tbl s (cells : List Cell), (∀ d ∈ cells, d.code = 0x20) → wraps tbl s cells = false) ∧
  (∀ tbl x g rest s, (∀ c ∈ groupCells s g, tbl.has c.code = true) → (s.lines.current.cells.map (·.id)).Nodup →
    x + ((groupCells s g).map fun c => tbl.width (effectivePitch s) c.code).sum ≤ 1559 →
    let u := releaseGroup tbl x g rest s
    let width := fun c : Cell => tbl.width (effectivePitch s) c.code
    let behind := s.lines.current.cells.filter fun c => c.isHeld && !g.contains c.id
    (groupCells u g).map (·.id) = (groupCells s g).map (·.id) ∧
    (∀ (i : Nat) c, (groupCells u g)[i]? = some c → c.width = width c ∧ c.extra = 0 ∧
      c.start = x + (((groupCells s g).take i).map width).sum) ∧
    u.composer.p = min 1559 (x + ((groupCells s g).map width).sum + (behind.map (·.width)).sum)) ∧
  (∀ x (cells : List Cell), placeWithin x [] = ([], []) ∧ ∀ c,
    (1559 < x + c.width → placeWithin x (c :: cells) = ((placeWithin x cells).1, c :: (placeWithin x cells).2)) ∧
    (x + c.width ≤ 1559 → placeWithin x (c :: cells) =
      ({ c with start := x, extra := 0 } :: (placeWithin (x + c.width) cells).1, (placeWithin (x + c.width) cells).2))) ∧
  (∀ tbl x g rest s, (s.lines.current.cells.map (·.id)).Nodup →
    let cells := groupCells s g
    let off := cells.filter fun c => tbl.has c.code = false
    let r := placeWithin x ((cells.filter fun c => tbl.has c.code = true).map fun c =>
      { c with width := tbl.width (effectivePitch s) c.code })
    let place := fun c : Cell => ((c.id, c.code, c.start, c.width, c.extra), c.bold, c.underline, c.source)
    let behind := s.lines.current.cells.filter fun c => c.isHeld && !g.contains c.id
    let u := releaseGroup tbl x g rest s
    (groupCells u g).map place = r.1.map place ∧
    (∀ c ∈ off ++ r.2, ∀ d ∈ u.lines.current.cells, d.id ≠ c.id) ∧
    (∀ c ∈ off ++ r.2, ∀ n, c.ticket = some n → ∀ d ∈ allCells u, d.ticket ≠ some n) ∧
    u.notices = (r.2.foldl (fun v c => refusedCharacters c.source 5 1 v) (skippedCharacters off.length s)).notices ∧
    u.composer.p = min 1559 (x + (r.1.map (·.width)).sum + (behind.map (·.width)).sum) ∧
    u.composer.closedGroups = rest ∧ u.composer.issue = some ⟨r.1.map (·.id), 0, s.streams.holder.getD .keyboard⟩ ∧
    (u.lines.current.cells.filter fun c => c.isHeld && !g.contains c.id).map place =
      (placeFrom (x + (r.1.map (·.width)).sum) behind).map place ∧
    (let ids := (off ++ r.2).map (·.id)
     let gone := (allCells s).filter (·.id ∈ ids)
     let stays := uncaptured gone
     u.lines.current = { s.lines.current with cells := u.lines.current.cells } ∧
     u.lines.current.cells.map (·.id) = (s.lines.current.cells.filter (·.id ∉ ids)).map (·.id) ∧
     u.lines.current.cells.filter (!·.isHeld) = (s.lines.current.cells.filter (!·.isHeld)).map stays ∧
     groupCells u g = r.1.map stays ∧
     (u.lines.current.cells.filter fun c => c.isHeld && !g.contains c.id) =
       (placeFrom (x + (r.1.map (·.width)).sum) behind).map stays ∧
     u.lines.outgoing = s.lines.outgoing.map (fun l => { l with cells := (l.cells.filter (·.id ∉ ids)).map stays }) ∧
     u.composer = { s.composer with
       p := u.composer.p, openGroup := s.composer.openGroup.filter (· ∉ ids), closedGroups := rest, issue := u.composer.issue } ∧
     u.spelling = (dropCells (r.2.map (·.id)) (dropCells (off.map (·.id)) s)).spelling) ∧
    Frame [.lines, .composer, .spelling, .notices] s u) ∧
  (∀ n s, (n = 0 → skippedCharacters n s = s) ∧ (n ≠ 0 → skippedCharacters n s = raise .skippedCharacters [byte n] s)) ∧
  (∀ s, s.resetHeld = false → s.composer.issue = none ∨ mountedTable s = none ∨ s.correction.held ≠ [] →
    ∃ t, Machine.exec .groupCellIssue s = .next t ∧ Becomes s t) ∧
  (∀ s g id rest, s.resetHeld = false → s.composer.issue = some g → mountedTable s ≠ none → s.correction.held = [] →
    g.left = id :: rest → (∀ c ∈ s.lines.current.cells, c.id = id → c.isHeld = false) →
    ∃ t, Machine.exec .groupCellIssue s = .next t ∧
      Becomes { s with composer := { s.composer with issue := some { g with left := rest } } } t) ∧
  (∀ s, s.resetHeld = false → s.composer.release = none ∨ mountedTable s = none ∨ s.lines.outgoing = none →
    ∃ t, Machine.exec .lineCellIssue s = .next t ∧ Becomes s t) ∧
  (∀ tbl x g rest s, (∀ c ∈ groupCells s g, tbl.has c.code = true) →
    x + ((groupCells s g).map fun c => tbl.width (effectivePitch s) c.code).sum ≤ 1559 →
    (releaseGroup tbl x g rest s).composer.closedGroups = rest ∧
    (releaseGroup tbl x g rest s).composer.issue = some ⟨(groupCells s g).map (·.id), 0, s.streams.holder.getD .keyboard⟩ ∧
    (releaseGroup tbl x g rest s).dispatch = s.dispatch) ∧
  (∀ s g tbl, s.resetHeld = false → s.composer.issue = some g → mountedTable s = some tbl → s.correction.held = [] →
    (g.left = [] → ∃ t, Machine.exec .groupCellIssue s = .next t ∧ Becomes (judge (finishIssue s)) t) ∧
    ∀ id rest c, g.left = id :: rest → s.lines.current.cells.find? (·.id = id) = some c → c.isHeld = true →
      let jobs := strikeJobs tbl s.energy.impression c
      (tbl.has c.code = true → (s.dispatch.homeHeld = none ∧ s.dispatch.orders.length + jobs.length ≤ 32) ∨ jobs = [] →
        ∃ t, Machine.exec .groupCellIssue s = .next t ∧
          (let u := appendJobs jobs (mapCell id (fun x => { x with
             state := if jobs.length = 0 then .printed else .released, outstanding := jobs.length }) s)
           Becomes (judge (finishIssue { u with composer := { u.composer with issue := some ⟨rest, g.skipped, g.source⟩ } })) t)) ∧
      (tbl.has c.code = true → jobs ≠ [] → s.dispatch.homeHeld ≠ none ∨ 32 < s.dispatch.orders.length + jobs.length →
        ∃ t, Machine.exec .groupCellIssue s = .next t ∧ Becomes s t) ∧
      (tbl.has c.code = false → ∃ t, Machine.exec .groupCellIssue s = .next t ∧
        (let u := mapCell id (fun x => { x with state := .printed, outstanding := 0, notOnWheel := true }) s
         Becomes (judge (finishIssue { u with composer := { u.composer with
           issue := some ⟨rest, g.skipped + 1, g.source⟩ } })) t))) ∧
  (∀ s g, s.composer.issue = some g → (g.left ≠ [] ∨ moveFits s = false → finishIssue s = s) ∧
    (g.left = [] → moveFits s = true → finishIssue s = makeMove s.composer.p (sourceOf g.source)
      (skippedCharacters g.skipped { s with composer := { s.composer with issue := none } }))) ∧
  (∀ s r tbl l, s.resetHeld = false → s.composer.release = some r → mountedTable s = some tbl → s.lines.outgoing = some l →
    ((∀ c ∈ l.cells, c.isHeld = false) → ∃ t, Machine.exec .lineCellIssue s = .next t ∧ Becomes (judge (finishRelease s)) t) ∧
    ∀ c, l.cells.find? (·.isHeld) = some c →
      let jobs := strikeJobs tbl s.energy.impression c
      (tbl.has c.code = true → (s.dispatch.homeHeld = none ∧ s.dispatch.orders.length + jobs.length ≤ 32) ∨ jobs = [] →
        ∃ t, Machine.exec .lineCellIssue s = .next t ∧
          (let u := appendJobs jobs (mapCell c.id (fun x => { x with
             state := if jobs.length = 0 then .printed else .released, outstanding := jobs.length }) s)
           Becomes (judge (finishRelease { u with composer := { u.composer with release := some ⟨r.skipped, r.source⟩ } })) t)) ∧
      (tbl.has c.code = true → jobs ≠ [] → s.dispatch.homeHeld ≠ none ∨ 32 < s.dispatch.orders.length + jobs.length →
        ∃ t, Machine.exec .lineCellIssue s = .next t ∧ Becomes s t) ∧
      (tbl.has c.code = false → ∃ t, Machine.exec .lineCellIssue s = .next t ∧
        (let u := mapCell c.id (fun x => { x with state := .printed, outstanding := 0, notOnWheel := true }) s
         Becomes (judge (finishRelease { u with composer := { u.composer with
           release := some ⟨r.skipped + 1, r.source⟩ } })) t))) ∧
  ∀ s r l, s.composer.release = some r → s.lines.outgoing = some l →
    ((∃ c ∈ l.cells, c.isHeld = true) ∨ s.dispatch.homeHeld ≠ none ∨ 32 ≤ s.dispatch.orders.length → finishRelease s = s) ∧
    ((∀ c ∈ l.cells, c.isHeld = false) → s.dispatch.homeHeld = none → s.dispatch.orders.length < 32 →
      (finishRelease s).composer = { s.composer with release := none } ∧
      (finishRelease s).lines.outgoing.map (fun x => (x.cells.map (·.id), x.state, x.returnSerial)) =
        some (l.cells.map (·.id), .printing, some (nextSerial s)) ∧
      (finishRelease s).notices = (skippedCharacters r.skipped s).notices ∧
      (finishRelease s).dispatch.orders.map (·.job) = s.dispatch.orders.map (·.job) ++
        [Job.plain .ret s.settings.left (sourceOf r.source) (some s.settings.lineSpacing)] ++
        if s.dispatch.homeDue = true ∧ s.dispatch.orders.length < 31 then
          [Job.plain .home s.settings.left .automatic none] else [])

/-! ## The laws that every step keeps -/

/-- Each block keeps its own law at every step: the stream queues their capacities and admissible codes, the settings and meters
their ranges, the tab stops their order, the display port its states, the notice maps one record for a kind in order with a
count from 1 to 15 (Laws 3, 10, 11), and the links a request of at most 40 bytes in the receive buffer exactly while the answer
buffer is BUSY (R193, R195). -/
def Obligations.EveryStepKeepsTheBlocksLaws : Prop :=
  Kept (fun s => StreamsOk s.streams) ∧ Kept (fun s => SettingsOk s.settings) ∧ Kept (fun s => EnergyOk s.energy) ∧
    Kept (fun s => ServiceOk s.service) ∧ Kept (fun s => DisplayOk s.display) ∧ Kept (fun s => NoticesOk s.notices) ∧
    Kept PortsOk

/-- Every step keeps Law 1 (at most 32 orders, at most 4 FETCHED, those the oldest), the serials of orders and strike records
all different within their capacities (Law 2), lines of at most 160 cells, at most 8 tickets in the spell queue, and at most
128 user words, none twice (Law 11). -/
def Obligations.EveryStepKeepsTheQueueLaws : Prop :=
  Kept (fun s => QueueOk s.dispatch) ∧ Kept SerialsOk ∧ Kept (fun s => LinesOk s.lines) ∧ Kept (fun s => SpellingOk s.spelling)

/-- Every step keeps what ties the line holder, page hold, takeover and hold lapse timer to the current line (R44, R46, R51 to
R55, R62), and the offerable flag standing exactly while the head order is offerable (R93). A cell that a step creates, one of no
id in use before, stands in the current line, whose holder is the cell's source, before the step too unless the line was free (Law
5, R44). -/
def Obligations.EveryStepKeepsHolderAndOffer : Prop :=
  Kept HolderOk ∧ Kept OfferOk ∧ ∀ s t, Machine.step s = .next t → CreatesForItsHolder s t

/-- The state after reset meets every law that the steps keep, and is the state after power-on with every pin low and no command
waiting (the pins: DESIGN CHOICE, notes/assumptions/7.md). -/
def Obligations.ResetMeetsTheLaws : Prop :=
  PoweredFrom State.reset State.reset ∧ State.reset.pending = [] ∧ StreamsOk State.reset.streams ∧ HolderOk State.reset ∧
    QueueOk State.reset.dispatch ∧ SerialsOk State.reset ∧ EnergyOk State.reset.energy ∧ SettingsOk State.reset.settings ∧
    LinesOk State.reset.lines ∧ SpellingOk State.reset.spelling ∧ NoticesOk State.reset.notices ∧
    DisplayOk State.reset.display ∧ PortsOk State.reset ∧ ServiceOk State.reset.service ∧ OfferOk State.reset ∧
    WheelsOk State.reset.wheels ∧
    PositionsOk State.reset ∧ CostsOk State.reset ∧ ReferencesOk State.reset
end

