-- ==== Sys2Proof/Laws/State.lean ====
section
/-! SUPPORT. The block updates, field by field. -/

namespace Sys2Proof.Laws

open Sys2Proof.Machine

/-! ## onWheels -/

@[simp] theorem onWheels_pending (f : WheelStore → WheelStore) (s : State) : (onWheels f s).pending = s.pending := rfl
@[simp] theorem onWheels_resetHeld (f : WheelStore → WheelStore) (s : State) : (onWheels f s).resetHeld = s.resetHeld := rfl
@[simp] theorem onWheels_wheels (f : WheelStore → WheelStore) (s : State) : (onWheels f s).wheels = f s.wheels := rfl
@[simp] theorem onWheels_streams (f : WheelStore → WheelStore) (s : State) : (onWheels f s).streams = s.streams := rfl
@[simp] theorem onWheels_settings (f : WheelStore → WheelStore) (s : State) : (onWheels f s).settings = s.settings := rfl
@[simp] theorem onWheels_lines (f : WheelStore → WheelStore) (s : State) : (onWheels f s).lines = s.lines := rfl
@[simp] theorem onWheels_composer (f : WheelStore → WheelStore) (s : State) : (onWheels f s).composer = s.composer := rfl
@[simp] theorem onWheels_dispatch (f : WheelStore → WheelStore) (s : State) : (onWheels f s).dispatch = s.dispatch := rfl
@[simp] theorem onWheels_energy (f : WheelStore → WheelStore) (s : State) : (onWheels f s).energy = s.energy := rfl
@[simp] theorem onWheels_correction (f : WheelStore → WheelStore) (s : State) : (onWheels f s).correction = s.correction := rfl
@[simp] theorem onWheels_spelling (f : WheelStore → WheelStore) (s : State) : (onWheels f s).spelling = s.spelling := rfl
@[simp] theorem onWheels_display (f : WheelStore → WheelStore) (s : State) : (onWheels f s).display = s.display := rfl
@[simp] theorem onWheels_signals (f : WheelStore → WheelStore) (s : State) : (onWheels f s).signals = s.signals := rfl
@[simp] theorem onWheels_service (f : WheelStore → WheelStore) (s : State) : (onWheels f s).service = s.service := rfl
@[simp] theorem onWheels_links (f : WheelStore → WheelStore) (s : State) : (onWheels f s).links = s.links := rfl
@[simp] theorem onWheels_notices (f : WheelStore → WheelStore) (s : State) : (onWheels f s).notices = s.notices := rfl

/-! ## onStreams -/

@[simp] theorem onStreams_pending (f : Streams → Streams) (s : State) : (onStreams f s).pending = s.pending := rfl
@[simp] theorem onStreams_resetHeld (f : Streams → Streams) (s : State) : (onStreams f s).resetHeld = s.resetHeld := rfl
@[simp] theorem onStreams_wheels (f : Streams → Streams) (s : State) : (onStreams f s).wheels = s.wheels := rfl
@[simp] theorem onStreams_streams (f : Streams → Streams) (s : State) : (onStreams f s).streams = f s.streams := rfl
@[simp] theorem onStreams_settings (f : Streams → Streams) (s : State) : (onStreams f s).settings = s.settings := rfl
@[simp] theorem onStreams_lines (f : Streams → Streams) (s : State) : (onStreams f s).lines = s.lines := rfl
@[simp] theorem onStreams_composer (f : Streams → Streams) (s : State) : (onStreams f s).composer = s.composer := rfl
@[simp] theorem onStreams_dispatch (f : Streams → Streams) (s : State) : (onStreams f s).dispatch = s.dispatch := rfl
@[simp] theorem onStreams_energy (f : Streams → Streams) (s : State) : (onStreams f s).energy = s.energy := rfl
@[simp] theorem onStreams_correction (f : Streams → Streams) (s : State) : (onStreams f s).correction = s.correction := rfl
@[simp] theorem onStreams_spelling (f : Streams → Streams) (s : State) : (onStreams f s).spelling = s.spelling := rfl
@[simp] theorem onStreams_display (f : Streams → Streams) (s : State) : (onStreams f s).display = s.display := rfl
@[simp] theorem onStreams_signals (f : Streams → Streams) (s : State) : (onStreams f s).signals = s.signals := rfl
@[simp] theorem onStreams_service (f : Streams → Streams) (s : State) : (onStreams f s).service = s.service := rfl
@[simp] theorem onStreams_links (f : Streams → Streams) (s : State) : (onStreams f s).links = s.links := rfl
@[simp] theorem onStreams_notices (f : Streams → Streams) (s : State) : (onStreams f s).notices = s.notices := rfl

/-! ## onSettings -/

@[simp] theorem onSettings_pending (f : Settings → Settings) (s : State) : (onSettings f s).pending = s.pending := rfl
@[simp] theorem onSettings_resetHeld (f : Settings → Settings) (s : State) : (onSettings f s).resetHeld = s.resetHeld := rfl
@[simp] theorem onSettings_wheels (f : Settings → Settings) (s : State) : (onSettings f s).wheels = s.wheels := rfl
@[simp] theorem onSettings_streams (f : Settings → Settings) (s : State) : (onSettings f s).streams = s.streams := rfl
@[simp] theorem onSettings_settings (f : Settings → Settings) (s : State) : (onSettings f s).settings = f s.settings := rfl
@[simp] theorem onSettings_lines (f : Settings → Settings) (s : State) : (onSettings f s).lines = s.lines := rfl
@[simp] theorem onSettings_composer (f : Settings → Settings) (s : State) : (onSettings f s).composer = s.composer := rfl
@[simp] theorem onSettings_dispatch (f : Settings → Settings) (s : State) : (onSettings f s).dispatch = s.dispatch := rfl
@[simp] theorem onSettings_energy (f : Settings → Settings) (s : State) : (onSettings f s).energy = s.energy := rfl
@[simp] theorem onSettings_correction (f : Settings → Settings) (s : State) : (onSettings f s).correction = s.correction := rfl
@[simp] theorem onSettings_spelling (f : Settings → Settings) (s : State) : (onSettings f s).spelling = s.spelling := rfl
@[simp] theorem onSettings_display (f : Settings → Settings) (s : State) : (onSettings f s).display = s.display := rfl
@[simp] theorem onSettings_signals (f : Settings → Settings) (s : State) : (onSettings f s).signals = s.signals := rfl
@[simp] theorem onSettings_service (f : Settings → Settings) (s : State) : (onSettings f s).service = s.service := rfl
@[simp] theorem onSettings_links (f : Settings → Settings) (s : State) : (onSettings f s).links = s.links := rfl
@[simp] theorem onSettings_notices (f : Settings → Settings) (s : State) : (onSettings f s).notices = s.notices := rfl

/-! ## onLines -/

@[simp] theorem onLines_pending (f : LineStore → LineStore) (s : State) : (onLines f s).pending = s.pending := rfl
@[simp] theorem onLines_resetHeld (f : LineStore → LineStore) (s : State) : (onLines f s).resetHeld = s.resetHeld := rfl
@[simp] theorem onLines_wheels (f : LineStore → LineStore) (s : State) : (onLines f s).wheels = s.wheels := rfl
@[simp] theorem onLines_streams (f : LineStore → LineStore) (s : State) : (onLines f s).streams = s.streams := rfl
@[simp] theorem onLines_settings (f : LineStore → LineStore) (s : State) : (onLines f s).settings = s.settings := rfl
@[simp] theorem onLines_lines (f : LineStore → LineStore) (s : State) : (onLines f s).lines = f s.lines := rfl
@[simp] theorem onLines_composer (f : LineStore → LineStore) (s : State) : (onLines f s).composer = s.composer := rfl
@[simp] theorem onLines_dispatch (f : LineStore → LineStore) (s : State) : (onLines f s).dispatch = s.dispatch := rfl
@[simp] theorem onLines_energy (f : LineStore → LineStore) (s : State) : (onLines f s).energy = s.energy := rfl
@[simp] theorem onLines_correction (f : LineStore → LineStore) (s : State) : (onLines f s).correction = s.correction := rfl
@[simp] theorem onLines_spelling (f : LineStore → LineStore) (s : State) : (onLines f s).spelling = s.spelling := rfl
@[simp] theorem onLines_display (f : LineStore → LineStore) (s : State) : (onLines f s).display = s.display := rfl
@[simp] theorem onLines_signals (f : LineStore → LineStore) (s : State) : (onLines f s).signals = s.signals := rfl
@[simp] theorem onLines_service (f : LineStore → LineStore) (s : State) : (onLines f s).service = s.service := rfl
@[simp] theorem onLines_links (f : LineStore → LineStore) (s : State) : (onLines f s).links = s.links := rfl
@[simp] theorem onLines_notices (f : LineStore → LineStore) (s : State) : (onLines f s).notices = s.notices := rfl

/-! ## onComposer -/

@[simp] theorem onComposer_pending (f : Composer → Composer) (s : State) : (onComposer f s).pending = s.pending := rfl
@[simp] theorem onComposer_resetHeld (f : Composer → Composer) (s : State) : (onComposer f s).resetHeld = s.resetHeld := rfl
@[simp] theorem onComposer_wheels (f : Composer → Composer) (s : State) : (onComposer f s).wheels = s.wheels := rfl
@[simp] theorem onComposer_streams (f : Composer → Composer) (s : State) : (onComposer f s).streams = s.streams := rfl
@[simp] theorem onComposer_settings (f : Composer → Composer) (s : State) : (onComposer f s).settings = s.settings := rfl
@[simp] theorem onComposer_lines (f : Composer → Composer) (s : State) : (onComposer f s).lines = s.lines := rfl
@[simp] theorem onComposer_composer (f : Composer → Composer) (s : State) : (onComposer f s).composer = f s.composer := rfl
@[simp] theorem onComposer_dispatch (f : Composer → Composer) (s : State) : (onComposer f s).dispatch = s.dispatch := rfl
@[simp] theorem onComposer_energy (f : Composer → Composer) (s : State) : (onComposer f s).energy = s.energy := rfl
@[simp] theorem onComposer_correction (f : Composer → Composer) (s : State) : (onComposer f s).correction = s.correction := rfl
@[simp] theorem onComposer_spelling (f : Composer → Composer) (s : State) : (onComposer f s).spelling = s.spelling := rfl
@[simp] theorem onComposer_display (f : Composer → Composer) (s : State) : (onComposer f s).display = s.display := rfl
@[simp] theorem onComposer_signals (f : Composer → Composer) (s : State) : (onComposer f s).signals = s.signals := rfl
@[simp] theorem onComposer_service (f : Composer → Composer) (s : State) : (onComposer f s).service = s.service := rfl
@[simp] theorem onComposer_links (f : Composer → Composer) (s : State) : (onComposer f s).links = s.links := rfl
@[simp] theorem onComposer_notices (f : Composer → Composer) (s : State) : (onComposer f s).notices = s.notices := rfl

/-! ## onDispatch -/

@[simp] theorem onDispatch_pending (f : Dispatch → Dispatch) (s : State) : (onDispatch f s).pending = s.pending := rfl
@[simp] theorem onDispatch_resetHeld (f : Dispatch → Dispatch) (s : State) : (onDispatch f s).resetHeld = s.resetHeld := rfl
@[simp] theorem onDispatch_wheels (f : Dispatch → Dispatch) (s : State) : (onDispatch f s).wheels = s.wheels := rfl
@[simp] theorem onDispatch_streams (f : Dispatch → Dispatch) (s : State) : (onDispatch f s).streams = s.streams := rfl
@[simp] theorem onDispatch_settings (f : Dispatch → Dispatch) (s : State) : (onDispatch f s).settings = s.settings := rfl
@[simp] theorem onDispatch_lines (f : Dispatch → Dispatch) (s : State) : (onDispatch f s).lines = s.lines := rfl
@[simp] theorem onDispatch_composer (f : Dispatch → Dispatch) (s : State) : (onDispatch f s).composer = s.composer := rfl
@[simp] theorem onDispatch_dispatch (f : Dispatch → Dispatch) (s : State) : (onDispatch f s).dispatch = f s.dispatch := rfl
@[simp] theorem onDispatch_energy (f : Dispatch → Dispatch) (s : State) : (onDispatch f s).energy = s.energy := rfl
@[simp] theorem onDispatch_correction (f : Dispatch → Dispatch) (s : State) : (onDispatch f s).correction = s.correction := rfl
@[simp] theorem onDispatch_spelling (f : Dispatch → Dispatch) (s : State) : (onDispatch f s).spelling = s.spelling := rfl
@[simp] theorem onDispatch_display (f : Dispatch → Dispatch) (s : State) : (onDispatch f s).display = s.display := rfl
@[simp] theorem onDispatch_signals (f : Dispatch → Dispatch) (s : State) : (onDispatch f s).signals = s.signals := rfl
@[simp] theorem onDispatch_service (f : Dispatch → Dispatch) (s : State) : (onDispatch f s).service = s.service := rfl
@[simp] theorem onDispatch_links (f : Dispatch → Dispatch) (s : State) : (onDispatch f s).links = s.links := rfl
@[simp] theorem onDispatch_notices (f : Dispatch → Dispatch) (s : State) : (onDispatch f s).notices = s.notices := rfl

/-! ## onEnergy -/

@[simp] theorem onEnergy_pending (f : Energy → Energy) (s : State) : (onEnergy f s).pending = s.pending := rfl
@[simp] theorem onEnergy_resetHeld (f : Energy → Energy) (s : State) : (onEnergy f s).resetHeld = s.resetHeld := rfl
@[simp] theorem onEnergy_wheels (f : Energy → Energy) (s : State) : (onEnergy f s).wheels = s.wheels := rfl
@[simp] theorem onEnergy_streams (f : Energy → Energy) (s : State) : (onEnergy f s).streams = s.streams := rfl
@[simp] theorem onEnergy_settings (f : Energy → Energy) (s : State) : (onEnergy f s).settings = s.settings := rfl
@[simp] theorem onEnergy_lines (f : Energy → Energy) (s : State) : (onEnergy f s).lines = s.lines := rfl
@[simp] theorem onEnergy_composer (f : Energy → Energy) (s : State) : (onEnergy f s).composer = s.composer := rfl
@[simp] theorem onEnergy_dispatch (f : Energy → Energy) (s : State) : (onEnergy f s).dispatch = s.dispatch := rfl
@[simp] theorem onEnergy_energy (f : Energy → Energy) (s : State) : (onEnergy f s).energy = f s.energy := rfl
@[simp] theorem onEnergy_correction (f : Energy → Energy) (s : State) : (onEnergy f s).correction = s.correction := rfl
@[simp] theorem onEnergy_spelling (f : Energy → Energy) (s : State) : (onEnergy f s).spelling = s.spelling := rfl
@[simp] theorem onEnergy_display (f : Energy → Energy) (s : State) : (onEnergy f s).display = s.display := rfl
@[simp] theorem onEnergy_signals (f : Energy → Energy) (s : State) : (onEnergy f s).signals = s.signals := rfl
@[simp] theorem onEnergy_service (f : Energy → Energy) (s : State) : (onEnergy f s).service = s.service := rfl
@[simp] theorem onEnergy_links (f : Energy → Energy) (s : State) : (onEnergy f s).links = s.links := rfl
@[simp] theorem onEnergy_notices (f : Energy → Energy) (s : State) : (onEnergy f s).notices = s.notices := rfl

/-! ## onCorrection -/

@[simp] theorem onCorrection_pending (f : Correction → Correction) (s : State) : (onCorrection f s).pending = s.pending := rfl
@[simp] theorem onCorrection_resetHeld (f : Correction → Correction) (s : State) : (onCorrection f s).resetHeld = s.resetHeld := rfl
@[simp] theorem onCorrection_wheels (f : Correction → Correction) (s : State) : (onCorrection f s).wheels = s.wheels := rfl
@[simp] theorem onCorrection_streams (f : Correction → Correction) (s : State) : (onCorrection f s).streams = s.streams := rfl
@[simp] theorem onCorrection_settings (f : Correction → Correction) (s : State) : (onCorrection f s).settings = s.settings := rfl
@[simp] theorem onCorrection_lines (f : Correction → Correction) (s : State) : (onCorrection f s).lines = s.lines := rfl
@[simp] theorem onCorrection_composer (f : Correction → Correction) (s : State) : (onCorrection f s).composer = s.composer := rfl
@[simp] theorem onCorrection_dispatch (f : Correction → Correction) (s : State) : (onCorrection f s).dispatch = s.dispatch := rfl
@[simp] theorem onCorrection_energy (f : Correction → Correction) (s : State) : (onCorrection f s).energy = s.energy := rfl
@[simp] theorem onCorrection_correction (f : Correction → Correction) (s : State) : (onCorrection f s).correction = f s.correction := rfl
@[simp] theorem onCorrection_spelling (f : Correction → Correction) (s : State) : (onCorrection f s).spelling = s.spelling := rfl
@[simp] theorem onCorrection_display (f : Correction → Correction) (s : State) : (onCorrection f s).display = s.display := rfl
@[simp] theorem onCorrection_signals (f : Correction → Correction) (s : State) : (onCorrection f s).signals = s.signals := rfl
@[simp] theorem onCorrection_service (f : Correction → Correction) (s : State) : (onCorrection f s).service = s.service := rfl
@[simp] theorem onCorrection_links (f : Correction → Correction) (s : State) : (onCorrection f s).links = s.links := rfl
@[simp] theorem onCorrection_notices (f : Correction → Correction) (s : State) : (onCorrection f s).notices = s.notices := rfl

/-! ## onSpelling -/

@[simp] theorem onSpelling_pending (f : Spelling → Spelling) (s : State) : (onSpelling f s).pending = s.pending := rfl
@[simp] theorem onSpelling_resetHeld (f : Spelling → Spelling) (s : State) : (onSpelling f s).resetHeld = s.resetHeld := rfl
@[simp] theorem onSpelling_wheels (f : Spelling → Spelling) (s : State) : (onSpelling f s).wheels = s.wheels := rfl
@[simp] theorem onSpelling_streams (f : Spelling → Spelling) (s : State) : (onSpelling f s).streams = s.streams := rfl
@[simp] theorem onSpelling_settings (f : Spelling → Spelling) (s : State) : (onSpelling f s).settings = s.settings := rfl
@[simp] theorem onSpelling_lines (f : Spelling → Spelling) (s : State) : (onSpelling f s).lines = s.lines := rfl
@[simp] theorem onSpelling_composer (f : Spelling → Spelling) (s : State) : (onSpelling f s).composer = s.composer := rfl
@[simp] theorem onSpelling_dispatch (f : Spelling → Spelling) (s : State) : (onSpelling f s).dispatch = s.dispatch := rfl
@[simp] theorem onSpelling_energy (f : Spelling → Spelling) (s : State) : (onSpelling f s).energy = s.energy := rfl
@[simp] theorem onSpelling_correction (f : Spelling → Spelling) (s : State) : (onSpelling f s).correction = s.correction := rfl
@[simp] theorem onSpelling_spelling (f : Spelling → Spelling) (s : State) : (onSpelling f s).spelling = f s.spelling := rfl
@[simp] theorem onSpelling_display (f : Spelling → Spelling) (s : State) : (onSpelling f s).display = s.display := rfl
@[simp] theorem onSpelling_signals (f : Spelling → Spelling) (s : State) : (onSpelling f s).signals = s.signals := rfl
@[simp] theorem onSpelling_service (f : Spelling → Spelling) (s : State) : (onSpelling f s).service = s.service := rfl
@[simp] theorem onSpelling_links (f : Spelling → Spelling) (s : State) : (onSpelling f s).links = s.links := rfl
@[simp] theorem onSpelling_notices (f : Spelling → Spelling) (s : State) : (onSpelling f s).notices = s.notices := rfl

/-! ## onDisplay -/

@[simp] theorem onDisplay_pending (f : Display → Display) (s : State) : (onDisplay f s).pending = s.pending := rfl
@[simp] theorem onDisplay_resetHeld (f : Display → Display) (s : State) : (onDisplay f s).resetHeld = s.resetHeld := rfl
@[simp] theorem onDisplay_wheels (f : Display → Display) (s : State) : (onDisplay f s).wheels = s.wheels := rfl
@[simp] theorem onDisplay_streams (f : Display → Display) (s : State) : (onDisplay f s).streams = s.streams := rfl
@[simp] theorem onDisplay_settings (f : Display → Display) (s : State) : (onDisplay f s).settings = s.settings := rfl
@[simp] theorem onDisplay_lines (f : Display → Display) (s : State) : (onDisplay f s).lines = s.lines := rfl
@[simp] theorem onDisplay_composer (f : Display → Display) (s : State) : (onDisplay f s).composer = s.composer := rfl
@[simp] theorem onDisplay_dispatch (f : Display → Display) (s : State) : (onDisplay f s).dispatch = s.dispatch := rfl
@[simp] theorem onDisplay_energy (f : Display → Display) (s : State) : (onDisplay f s).energy = s.energy := rfl
@[simp] theorem onDisplay_correction (f : Display → Display) (s : State) : (onDisplay f s).correction = s.correction := rfl
@[simp] theorem onDisplay_spelling (f : Display → Display) (s : State) : (onDisplay f s).spelling = s.spelling := rfl
@[simp] theorem onDisplay_display (f : Display → Display) (s : State) : (onDisplay f s).display = f s.display := rfl
@[simp] theorem onDisplay_signals (f : Display → Display) (s : State) : (onDisplay f s).signals = s.signals := rfl
@[simp] theorem onDisplay_service (f : Display → Display) (s : State) : (onDisplay f s).service = s.service := rfl
@[simp] theorem onDisplay_links (f : Display → Display) (s : State) : (onDisplay f s).links = s.links := rfl
@[simp] theorem onDisplay_notices (f : Display → Display) (s : State) : (onDisplay f s).notices = s.notices := rfl

/-! ## onSignals -/

@[simp] theorem onSignals_pending (f : Signals → Signals) (s : State) : (onSignals f s).pending = s.pending := rfl
@[simp] theorem onSignals_resetHeld (f : Signals → Signals) (s : State) : (onSignals f s).resetHeld = s.resetHeld := rfl
@[simp] theorem onSignals_wheels (f : Signals → Signals) (s : State) : (onSignals f s).wheels = s.wheels := rfl
@[simp] theorem onSignals_streams (f : Signals → Signals) (s : State) : (onSignals f s).streams = s.streams := rfl
@[simp] theorem onSignals_settings (f : Signals → Signals) (s : State) : (onSignals f s).settings = s.settings := rfl
@[simp] theorem onSignals_lines (f : Signals → Signals) (s : State) : (onSignals f s).lines = s.lines := rfl
@[simp] theorem onSignals_composer (f : Signals → Signals) (s : State) : (onSignals f s).composer = s.composer := rfl
@[simp] theorem onSignals_dispatch (f : Signals → Signals) (s : State) : (onSignals f s).dispatch = s.dispatch := rfl
@[simp] theorem onSignals_energy (f : Signals → Signals) (s : State) : (onSignals f s).energy = s.energy := rfl
@[simp] theorem onSignals_correction (f : Signals → Signals) (s : State) : (onSignals f s).correction = s.correction := rfl
@[simp] theorem onSignals_spelling (f : Signals → Signals) (s : State) : (onSignals f s).spelling = s.spelling := rfl
@[simp] theorem onSignals_display (f : Signals → Signals) (s : State) : (onSignals f s).display = s.display := rfl
@[simp] theorem onSignals_signals (f : Signals → Signals) (s : State) : (onSignals f s).signals = f s.signals := rfl
@[simp] theorem onSignals_service (f : Signals → Signals) (s : State) : (onSignals f s).service = s.service := rfl
@[simp] theorem onSignals_links (f : Signals → Signals) (s : State) : (onSignals f s).links = s.links := rfl
@[simp] theorem onSignals_notices (f : Signals → Signals) (s : State) : (onSignals f s).notices = s.notices := rfl

/-! ## onService -/

@[simp] theorem onService_pending (f : Service → Service) (s : State) : (onService f s).pending = s.pending := rfl
@[simp] theorem onService_resetHeld (f : Service → Service) (s : State) : (onService f s).resetHeld = s.resetHeld := rfl
@[simp] theorem onService_wheels (f : Service → Service) (s : State) : (onService f s).wheels = s.wheels := rfl
@[simp] theorem onService_streams (f : Service → Service) (s : State) : (onService f s).streams = s.streams := rfl
@[simp] theorem onService_settings (f : Service → Service) (s : State) : (onService f s).settings = s.settings := rfl
@[simp] theorem onService_lines (f : Service → Service) (s : State) : (onService f s).lines = s.lines := rfl
@[simp] theorem onService_composer (f : Service → Service) (s : State) : (onService f s).composer = s.composer := rfl
@[simp] theorem onService_dispatch (f : Service → Service) (s : State) : (onService f s).dispatch = s.dispatch := rfl
@[simp] theorem onService_energy (f : Service → Service) (s : State) : (onService f s).energy = s.energy := rfl
@[simp] theorem onService_correction (f : Service → Service) (s : State) : (onService f s).correction = s.correction := rfl
@[simp] theorem onService_spelling (f : Service → Service) (s : State) : (onService f s).spelling = s.spelling := rfl
@[simp] theorem onService_display (f : Service → Service) (s : State) : (onService f s).display = s.display := rfl
@[simp] theorem onService_signals (f : Service → Service) (s : State) : (onService f s).signals = s.signals := rfl
@[simp] theorem onService_service (f : Service → Service) (s : State) : (onService f s).service = f s.service := rfl
@[simp] theorem onService_links (f : Service → Service) (s : State) : (onService f s).links = s.links := rfl
@[simp] theorem onService_notices (f : Service → Service) (s : State) : (onService f s).notices = s.notices := rfl

/-! ## onLinks -/

@[simp] theorem onLinks_pending (f : Links → Links) (s : State) : (onLinks f s).pending = s.pending := rfl
@[simp] theorem onLinks_resetHeld (f : Links → Links) (s : State) : (onLinks f s).resetHeld = s.resetHeld := rfl
@[simp] theorem onLinks_wheels (f : Links → Links) (s : State) : (onLinks f s).wheels = s.wheels := rfl
@[simp] theorem onLinks_streams (f : Links → Links) (s : State) : (onLinks f s).streams = s.streams := rfl
@[simp] theorem onLinks_settings (f : Links → Links) (s : State) : (onLinks f s).settings = s.settings := rfl
@[simp] theorem onLinks_lines (f : Links → Links) (s : State) : (onLinks f s).lines = s.lines := rfl
@[simp] theorem onLinks_composer (f : Links → Links) (s : State) : (onLinks f s).composer = s.composer := rfl
@[simp] theorem onLinks_dispatch (f : Links → Links) (s : State) : (onLinks f s).dispatch = s.dispatch := rfl
@[simp] theorem onLinks_energy (f : Links → Links) (s : State) : (onLinks f s).energy = s.energy := rfl
@[simp] theorem onLinks_correction (f : Links → Links) (s : State) : (onLinks f s).correction = s.correction := rfl
@[simp] theorem onLinks_spelling (f : Links → Links) (s : State) : (onLinks f s).spelling = s.spelling := rfl
@[simp] theorem onLinks_display (f : Links → Links) (s : State) : (onLinks f s).display = s.display := rfl
@[simp] theorem onLinks_signals (f : Links → Links) (s : State) : (onLinks f s).signals = s.signals := rfl
@[simp] theorem onLinks_service (f : Links → Links) (s : State) : (onLinks f s).service = s.service := rfl
@[simp] theorem onLinks_links (f : Links → Links) (s : State) : (onLinks f s).links = f s.links := rfl
@[simp] theorem onLinks_notices (f : Links → Links) (s : State) : (onLinks f s).notices = s.notices := rfl

/-! ## onNotices -/

@[simp] theorem onNotices_pending (f : Notices → Notices) (s : State) : (onNotices f s).pending = s.pending := rfl
@[simp] theorem onNotices_resetHeld (f : Notices → Notices) (s : State) : (onNotices f s).resetHeld = s.resetHeld := rfl
@[simp] theorem onNotices_wheels (f : Notices → Notices) (s : State) : (onNotices f s).wheels = s.wheels := rfl
@[simp] theorem onNotices_streams (f : Notices → Notices) (s : State) : (onNotices f s).streams = s.streams := rfl
@[simp] theorem onNotices_settings (f : Notices → Notices) (s : State) : (onNotices f s).settings = s.settings := rfl
@[simp] theorem onNotices_lines (f : Notices → Notices) (s : State) : (onNotices f s).lines = s.lines := rfl
@[simp] theorem onNotices_composer (f : Notices → Notices) (s : State) : (onNotices f s).composer = s.composer := rfl
@[simp] theorem onNotices_dispatch (f : Notices → Notices) (s : State) : (onNotices f s).dispatch = s.dispatch := rfl
@[simp] theorem onNotices_energy (f : Notices → Notices) (s : State) : (onNotices f s).energy = s.energy := rfl
@[simp] theorem onNotices_correction (f : Notices → Notices) (s : State) : (onNotices f s).correction = s.correction := rfl
@[simp] theorem onNotices_spelling (f : Notices → Notices) (s : State) : (onNotices f s).spelling = s.spelling := rfl
@[simp] theorem onNotices_display (f : Notices → Notices) (s : State) : (onNotices f s).display = s.display := rfl
@[simp] theorem onNotices_signals (f : Notices → Notices) (s : State) : (onNotices f s).signals = s.signals := rfl
@[simp] theorem onNotices_service (f : Notices → Notices) (s : State) : (onNotices f s).service = s.service := rfl
@[simp] theorem onNotices_links (f : Notices → Notices) (s : State) : (onNotices f s).links = s.links := rfl
@[simp] theorem onNotices_notices (f : Notices → Notices) (s : State) : (onNotices f s).notices = f s.notices := rfl

/-! ## withPending -/

@[simp] theorem withPending_pending (cs : List Instr) (s : State) : (s.withPending cs).pending = cs := rfl
@[simp] theorem withPending_resetHeld (cs : List Instr) (s : State) : (s.withPending cs).resetHeld = s.resetHeld := rfl
@[simp] theorem withPending_wheels (cs : List Instr) (s : State) : (s.withPending cs).wheels = s.wheels := rfl
@[simp] theorem withPending_streams (cs : List Instr) (s : State) : (s.withPending cs).streams = s.streams := rfl
@[simp] theorem withPending_settings (cs : List Instr) (s : State) : (s.withPending cs).settings = s.settings := rfl
@[simp] theorem withPending_lines (cs : List Instr) (s : State) : (s.withPending cs).lines = s.lines := rfl
@[simp] theorem withPending_composer (cs : List Instr) (s : State) : (s.withPending cs).composer = s.composer := rfl
@[simp] theorem withPending_dispatch (cs : List Instr) (s : State) : (s.withPending cs).dispatch = s.dispatch := rfl
@[simp] theorem withPending_energy (cs : List Instr) (s : State) : (s.withPending cs).energy = s.energy := rfl
@[simp] theorem withPending_correction (cs : List Instr) (s : State) : (s.withPending cs).correction = s.correction := rfl
@[simp] theorem withPending_spelling (cs : List Instr) (s : State) : (s.withPending cs).spelling = s.spelling := rfl
@[simp] theorem withPending_display (cs : List Instr) (s : State) : (s.withPending cs).display = s.display := rfl
@[simp] theorem withPending_signals (cs : List Instr) (s : State) : (s.withPending cs).signals = s.signals := rfl
@[simp] theorem withPending_service (cs : List Instr) (s : State) : (s.withPending cs).service = s.service := rfl
@[simp] theorem withPending_links (cs : List Instr) (s : State) : (s.withPending cs).links = s.links := rfl
@[simp] theorem withPending_notices (cs : List Instr) (s : State) : (s.withPending cs).notices = s.notices := rfl

end Sys2Proof.Laws
end

