-- ==== Sys2Proof/Laws/Requests.lean ====
section
/-! SUPPORT. Events and requests: what the shared forms of the rows do, once, for every row that has the form. -/

namespace Sys2Proof.Laws

open Sys2Proof.Machine Sys2Proof.Safety Host

/-! ## Frames -/

/-- A frame from the blocks one by one: the form in which `simp [Same, …]` settles it. -/
theorem frame_intro {bs : List Block} {s t : State}
    (h : ∀ b ∈ [Block.pending, .resetHeld, .wheels, .streams, .settings, .lines, .composer, .dispatch, .energy, .correction,
      .spelling, .display, .signals, .service, .links, .notices], b ∉ bs → Same s t b) : Frame bs s t := by
  intro b hb
  cases b <;> exact h _ (by simp) hb

@[simp] theorem same_refl (s : State) (b : Block) : Same s s b := by cases b <;> rfl

theorem frame_refl (bs : List Block) (s : State) : Frame bs s s := fun b _ => same_refl s b

/-- Blocks the same in two steps are the same in one. -/
theorem same_trans {s t u : State} {b : Block} (h : Same s t b) (k : Same t u b) : Same s u b := by
  cases b
  case display => exact Eq.trans k (congrArg (fun d : Machine.Display => { d with dirty := u.display.dirty }) h)
  all_goals exact Eq.trans k h

theorem frame_trans {bs : List Block} {s t u : State} (h : Frame bs s t) (k : Frame bs t u) : Frame bs s u :=
  fun b hb => same_trans (h b hb) (k b hb)

theorem frame_mono {bs cs : List Block} {s t : State} (h : Frame bs s t) (hs : ∀ b ∈ bs, b ∈ cs) : Frame cs s t :=
  fun b hb => h b fun hm => hb (hs b hm)

/-! ## Events (R175, R202) -/

/-- `markDirty` changes the dirty flag alone, by R175. -/
theorem markDirty_eq (a b : State) : markDirty a b =
    { b with display := { b.display with dirty := b.display.dirty || decide (shownItems a ≠ shownItems b) } } := by
  unfold markDirty
  split
  · rename_i h
    simp [h]
  · rename_i h
    simp [h, onDisplay]

/-- The event of an unheld part: its body, then the dirty flag. -/
theorem event_next {body : State → State} {s : State} (h : s.resetHeld = false) :
    event body s = .next (markDirty s (body s)) := by
  simp [event, h]

/-- While RESET is held an event changes nothing. -/
theorem event_held {body : State → State} {s : State} (h : s.resetHeld = true) : event body s = .next s := by
  simp [event, h]

/-- An event becomes its body's state, the dirty flag left aside. -/
theorem becomes_markDirty (s v : State) : Becomes v (markDirty s v) := by
  rw [markDirty_eq]
  exact frame_intro (by simp [Same])

/-- An event row's outcome: what its body leaves. -/
theorem event_becomes {body : State → State} {s : State} (h : s.resetHeld = false) :
    ∃ t, event body s = .next t ∧ Becomes (body s) t :=
  ⟨_, event_next h, becomes_markDirty _ _⟩

/-! ## Requests (R193 to R197) -/

theorem linkOf_onLink (s : State) (st st' : Station) (f : Link → Link) :
    linkOf (onLink st f s) st' = if st' = st then f (linkOf s st') else linkOf s st' := by
  cases st <;> cases st' <;> simp [linkOf, onLink, onLinks]

/-- Every request row has the form `requestEvent`, with the request, link and payload that `requestOf` names. -/
theorem request_row {c : Instr} {k st p} (h : requestOf c = some (k, st, p)) :
    ∃ f : State → State × Answer, ∀ s, exec c s = requestEvent k st p f s := by
  cases c <;> simp [requestOf] at h <;> obtain ⟨rfl, rfl, rfl⟩ := h <;> exact ⟨_, fun _ => rfl⟩

/-- The two link events of a request together (R195): the receive buffer ends empty, the answer buffer with the answer. -/
theorem requestTaken_frameEnds (st : Station) (r : Request) (a : Answer) (v : State) :
    requestTaken st a (frameEnds st r v) = onLink st (fun l => { l with receive := none, answer := .held a }) v := by
  cases st <;> simp [requestTaken, frameEnds, onLink, onLinks]

/-- An answer put into a link's buffer after an effect that leaves the links alone. -/
theorem yields_taken (st : Station) (r : Request) (a : Answer) (v s : State) (hv : v.links = s.links) :
    Yields st a v s (markDirty s (requestTaken st a (frameEnds st r v))) := by
  rw [markDirty_eq, requestTaken_frameEnds]
  refine ⟨⟨?_, ?_, ?_⟩, ?_⟩
  · cases st <;> simp [linkOf, onLink, onLinks, hv]
  · cases st <;> simp [onLink, onLinks, hv]
  · intro st' h'
    cases st <;> cases st' <;> simp [linkOf, onLink, onLinks, hv] at h' ⊢
  · exact frame_intro (by simp [Same, onLink, onLinks])

/-- A request row that is ready runs its rule and answers. -/
theorem request_taken {c : Instr} {k st p} {f : State → State × Answer} {s : State}
    (hc : ∀ s, exec c s = requestEvent k st p f s) (hr : Ready k st p s) :
    exec c s = .next (markDirty s (requestTaken st (f s).2 (frameEnds st ⟨k.code, p⟩ (f s).1))) := by
  obtain ⟨h1, h2, h3, h4, h5⟩ := hr
  simp [hc, requestEvent, event, h1, takeRequest, takeFrame, h2, Nat.not_lt.2 h3, h4, h5]

/-- A request whose frame ends while the part is at work stays in the receive buffer, the answer buffer BUSY. -/
theorem request_waits {c : Instr} {k st p} {f : State → State × Answer} {s : State}
    (hc : ∀ s, exec c s = requestEvent k st p f s) (hs : s.resetHeld = false) (ha : (linkOf s st).answer = .empty)
    (hp : p.length ≤ 40) (ho : s.links.occupied = true) :
    exec c s = .next (markDirty s (frameEnds st ⟨k.code, p⟩ s)) := by
  simp [hc, requestEvent, event, hs, takeRequest, takeFrame, ha, Nat.not_lt.2 hp, ho]

/-- The links of a part that takes the request waiting on one of them: that link's buffers are empty, the others stand. -/
theorem linkOf_readied (st st' : Station) (s : State) :
    linkOf (readied st s) st' = if st' = st then { linkOf s st' with receive := none, answer := .empty } else linkOf s st' := by
  rw [readied, linkOf_onLink]
  cases st' <;> rfl

@[simp] theorem readied_occupied (st : Station) (s : State) : (readied st s).links.occupied = false := by cases st <;> rfl

/-- Nothing but the links differs in a part that takes a waiting request, nor in one that turns to its work or from it. -/
theorem frame_readied (st : Station) (s : State) : Frame [.links] s (readied st s) :=
  frame_intro (by simp [Same, readied, onLink, onLinks])

theorem frame_turned (s : State) : Frame [.links] s (turned s) := frame_intro (by simp [Same, turned, onLinks])

@[simp] theorem linkOf_turned (s : State) (st : Station) : linkOf (turned s) st = linkOf s st := by cases st <;> rfl

/-- A request whose rule answers `a` and leaves `v`, the links untouched. -/
theorem request_yields {c : Instr} {k st p} {f : State → State × Answer} {s v : State} {a : Answer}
    (hc : ∀ s, exec c s = requestEvent k st p f s) (hr : Ready k st p s) (hf : f s = (v, a)) (hv : v.links = s.links) :
    ∃ t, exec c s = .next t ∧ Yields st a v s t := by
  refine ⟨_, request_taken hc hr, ?_⟩
  rw [hf]
  exact yields_taken st _ a v s hv

/-- A request whose rule refuses it. -/
theorem request_refused {c : Instr} {k st p} {f : State → State × Answer} {s : State} {status : Status}
    (hc : ∀ s, exec c s = requestEvent k st p f s) (hr : Ready k st p s) (hf : f s = answered status s) :
    ∃ t, exec c s = .next t ∧ Refused st status s t :=
  request_yields hc hr hf rfl

end Sys2Proof.Laws
end

