-- ==== Sys2Proof/Laws/Operations.lean ====
section
/-! SUPPORT. The shared operations: which blocks each can change; what a dictionary transfer reads; heads that are not taken. -/

namespace Sys2Proof.Laws

open Sys2Proof.Machine Sys2Proof.Safety

/-! ## Notices, links, beeper -/

theorem raiseTo_frame (st : Station) (k : NoticeKind) (d : List Byte) (s : State) : Frame [.notices] s (raiseTo st k d s) :=
  frame_intro (by simp [Same, raiseTo, onBoard])

/-- A raise is a function of the notice unit alone. -/
theorem raise_eq (k : NoticeKind) (d : List Byte) (s : State) :
    raise k d s = { s with notices := (raise k d s).notices } := by
  simp only [raise]
  cases (routeOf s k).keyboard <;> cases (routeOf s k).mechanism <;> cases (routeOf s k).interface <;>
    simp [raiseTo, onBoard, onNotices]

theorem raise_frame (k : NoticeKind) (d : List Byte) (s : State) : Frame [.notices] s (raise k d s) := by
  rw [raise_eq]
  exact frame_intro (by simp [Same])

theorem skippedCharacters_frame (n : Nat) (s : State) : Frame [.notices] s (skippedCharacters n s) := by
  unfold skippedCharacters
  split
  · exact frame_refl _ _
  · exact raise_frame _ _ _

theorem onLink_frame (st : Station) (f : Link → Link) (s : State) : Frame [.links] s (onLink st f s) :=
  frame_intro (by simp [Same, onLink])

theorem requestBeep_frame (p : Machine.Pattern) (s : State) : Frame [.signals] s (requestBeep p s) := by
  unfold requestBeep
  split
  · exact frame_intro (by simp [Same])
  · exact frame_refl _ _

/-! ## Cells and orders -/

theorem mapCells_frame (test : Cell → Bool) (f : Cell → Cell) (s : State) : Frame [.lines] s (mapCells test f s) :=
  frame_intro (by simp [Same, mapCells, onCells])

theorem dropOldestRecord_frame (s : State) : Frame [.correction, .lines] s (dropOldestRecord s) := by
  unfold dropOldestRecord
  split
  · exact frame_refl _ _
  · split
    · exact frame_intro (by simp [Same, mapCell, mapCells, onCells])
    · exact frame_intro (by simp [Same])

/-- Taking a serial changes the counter, and may drop the oldest record. -/
theorem takeSerial_frame (s : State) : Frame [.dispatch, .correction, .lines] s (takeSerial s) := by
  unfold takeSerial
  dsimp only
  split
  · refine frame_trans (frame_mono (dropOldestRecord_frame s) (by simp)) ?_
    exact frame_intro (by simp [Same])
  · exact frame_intro (by simp [Same])

/-- Appending an order changes the queue, and may drop the oldest record. -/
theorem appendJob_frame (j : Job) (s : State) : Frame [.dispatch, .correction, .lines] s (appendJob j s) := by
  unfold appendJob
  refine frame_trans (takeSerial_frame s) ?_
  exact frame_intro (by simp [Same])

theorem appendJobs_frame (js : List Job) (s : State) : Frame [.dispatch, .correction, .lines] s (appendJobs js s) := by
  induction js generalizing s with
  | nil => exact frame_refl _ _
  | cons j js ih => exact frame_trans (appendJob_frame j s) (ih _)

theorem retargetTail_frame (p : Nat) (s : State) : Frame [.dispatch] s (retargetTail p s) := by
  unfold retargetTail
  split
  · exact frame_refl _ _
  · exact frame_intro (by simp [Same])

/-- A MOVE is merged or appended (R69). -/
theorem makeMove_frame (p : Nat) (source : Source) (s : State) :
    Frame [.dispatch, .correction, .lines] s (makeMove p source s) := by
  unfold makeMove
  split
  · exact frame_mono (retargetTail_frame p s) (by simp)
  · exact appendJob_frame _ _

/-- A RETURN order, and the due HOME behind it (R83, R107). -/
theorem makeReturn_frame (target feed : Nat) (source : Source) (s : State) :
    Frame [.dispatch, .correction, .lines] s (makeReturn target feed source s) := by
  unfold makeReturn
  dsimp only
  refine frame_trans (appendJob_frame (Job.plain .ret target source (some (feed : Int))) s) ?_
  split
  · split
    · refine frame_trans (appendJob_frame (Job.plain .home target .automatic none) _) ?_
      exact frame_intro (by simp [Same])
    · exact frame_intro (by simp [Same])
  · exact frame_refl _ _

/-! ## The offerable flag -/

theorem judgeWrongWheel_frame (s : State) : Frame [.correction, .notices] s (judgeWrongWheel s) := by
  unfold judgeWrongWheel
  split
  · rename_i o _
    split
    · exact frame_refl _ _
    · refine frame_trans (t := cannotLift 2 (o.job.wheel.getD 63) s) (frame_mono (raise_frame _ _ s) (by simp)) ?_
      exact frame_intro (by simp [Same])
  · exact frame_intro (by simp [Same])

/-- The judgement of R93 changes the offerable flag, the wrong-wheel mark and the notices, nothing else. -/
theorem judge_frame (s : State) : Frame [.dispatch, .correction, .notices] s (judge s) := by
  unfold judge
  dsimp only
  refine frame_trans (frame_mono (judgeWrongWheel_frame s) (by simp)) ?_
  split
  · split
    · split
      · exact frame_refl _ _
      · refine frame_trans ?_ (frame_mono (raise_frame _ _ _) (by simp))
        exact frame_intro (by simp [Same])
    · exact frame_intro (by simp [Same])
  · exact frame_intro (by simp [Same])

/-- Of the dispatcher, the judgement changes the flag alone. -/
theorem judge_dispatch (s : State) :
    (judge s).dispatch = { s.dispatch with offerable := (judge s).dispatch.offerable } := by
  have hj : (judgeWrongWheel s).dispatch = s.dispatch := (judgeWrongWheel_frame s) .dispatch (by simp)
  unfold judge
  dsimp only
  split
  · split
    · split
      · rw [hj]
      · rw [raise_eq]
        simp [onDispatch, hj]
    · simp [onDispatch, hj]
  · simp [onDispatch, hj]

/-! ## Streams and the line holder -/

theorem setComposition_frame (m : Mode) (s : State) : Frame [.lines, .composer] s (setComposition m s) := by
  unfold setComposition
  dsimp only
  split
  · exact frame_intro (by simp [Same, onCurrent])
  · exact frame_intro (by simp [Same, onCurrent])

theorem becomeHolder_frame (src : Stream) (s : State) : Frame [.streams, .lines, .composer] s (becomeHolder src s) := by
  unfold becomeHolder
  dsimp only
  split
  · refine frame_trans ?_ (frame_mono (setComposition_frame _ _) (by simp))
    exact frame_intro (by simp [Same])
  · exact frame_intro (by simp [Same])

theorem noHolder_frame (s : State) : Frame [.streams, .lines] s (noHolder s) :=
  frame_intro (by simp [Same, noHolder, onCurrent])

theorem claim_frame (src : Stream) (s : State) : Frame [.streams, .lines, .composer] s (claim src s) := by
  unfold claim
  split
  · exact becomeHolder_frame _ _
  · exact frame_refl _ _

theorem roomCheck_frame (s : State) : Frame [.streams, .notices] s (roomCheck s) := by
  unfold roomCheck
  split
  · refine frame_trans ?_ (frame_mono (raiseTo_frame _ _ _ _) (by simp))
    exact frame_intro (by simp [Same])
  · exact frame_refl _ _

theorem popHead_frame (src : Stream) (s : State) : Frame [.streams, .notices] s (popHead src s) := by
  cases src
  · exact frame_intro (by simp [Same, popHead])
  · refine frame_trans ?_ (roomCheck_frame _)
    exact frame_intro (by simp [Same])

/-- Taking a head touches the streams, the claim of the line, and STREAM ROOM (R43, R44, R53, R56). -/
theorem takeHead_frame (src : Stream) (s : State) : Frame [.streams, .lines, .composer, .notices] s (takeHead src s) := by
  unfold takeHead
  dsimp only
  refine frame_trans (frame_mono (claim_frame src s) (by simp)) ?_
  refine frame_trans (frame_mono (popHead_frame src _) (by simp)) ?_
  split
  · exact frame_intro (by simp [Same])
  · exact frame_refl _ _

theorem holdLapsed_frame (atLineEnd : Bool) (s : State) : Frame [.notices] s (holdLapsed atLineEnd s) := raise_frame _ _ _

/-- A hold end passes the line on (R46). -/
theorem holdEnd_frame (s : State) : Frame [.streams, .lines, .composer, .notices] s (holdEnd s) := by
  have on (f : Streams → Streams) : Frame [.streams, .lines, .composer, .notices] s (onStreams f s) :=
    frame_intro (by simp [Same])
  unfold holdEnd
  split
  · exact frame_refl _ _
  · split
    · exact frame_trans (on _) (frame_mono (becomeHolder_frame _ _) (by simp))
    · exact frame_mono (noHolder_frame s) (by simp)
  · split
    · exact frame_trans (on _) (frame_mono (becomeHolder_frame _ _) (by simp))
    · split
      · split
        · refine frame_trans ?_ (frame_mono (holdLapsed_frame true _) (by simp))
          exact frame_trans (on _) (frame_mono (noHolder_frame _) (by simp))
        · exact frame_mono (becomeHolder_frame _ s) (by simp)
      · exact frame_mono (noHolder_frame s) (by simp)

/-! ## Words and tickets -/

theorem setOpenWord_frame (w : List Nat × Option Nat) (s : State) : Frame [.spelling] s (setOpenWord w s) :=
  frame_intro (by simp [Same, setOpenWord])

/-- A cancellation touches the cells of the ticket's word and the spelling unit (R159). -/
theorem cancelTicket_frame (n : Byte) (s : State) : Frame [.lines, .spelling] s (cancelTicket n s) := by
  unfold cancelTicket
  dsimp only
  split <;> exact frame_intro (by simp [Same, mapCells, onCells])

theorem ite_frame {bs : List Block} {c : Prop} [Decidable c] {s t u : State} (h : Frame bs s t) (k : Frame bs s u) :
    Frame bs s (if c then t else u) := by
  split <;> assumption

theorem foldl_frame {α : Type} {bs : List Block} (f : State → α → State) (h : ∀ s a, Frame bs s (f s a)) (as : List α)
    (s : State) : Frame bs s (as.foldl f s) := by
  induction as generalizing s with
  | nil => exact frame_refl _ _
  | cons a as ih => exact frame_trans (h s a) (ih _)

theorem pruneOpenWord_frame (s : State) : Frame [.spelling] s (pruneOpenWord s) := by
  unfold pruneOpenWord
  dsimp only
  split
  · exact frame_refl _ _
  · exact setOpenWord_frame _ _

theorem recapture_frame (s : State) (ids : List Nat) : Frame [.spelling] s (recapture s ids) := by
  unfold recapture
  exact ite_frame (setOpenWord_frame _ _) (frame_refl _ _)

/-- Removing cells touches the line store, the groups and the spelling unit (R61, R76, R159). -/
theorem dropCells_frame (ids : List Nat) (s : State) : Frame [.lines, .composer, .spelling] s (dropCells ids s) := by
  unfold dropCells
  dsimp only
  refine frame_trans ?_ (foldl_frame _ (fun s a => frame_mono (recapture_frame s a) (by simp)) _ _)
  refine frame_trans ?_ (frame_mono (pruneOpenWord_frame _) (by simp))
  refine frame_trans ?_ (foldl_frame _ (fun s a => frame_mono (cancelTicket_frame a s) (by simp)) _ _)
  exact frame_intro (by simp [Same, onCells])

theorem forgetWords_frame (words : List Nat) (s : State) : Frame [.lines] s (forgetWords words s) :=
  frame_intro (by simp [Same, forgetWords, onCurrent])

/-- Removing cells of a LINE line touches what removing cells does (R78, R145). -/
theorem dropLineCells_frame (ids : List Nat) (s : State) :
    Frame [.lines, .composer, .spelling] s (dropLineCells ids s) :=
  frame_trans (frame_mono (forgetWords_frame _ s) (by simp)) (dropCells_frame ids _)

/-- The tickets that an edit of a LINE line cancels touch the cells and the spelling unit (R159). -/
theorem cancelBroken_frame (s : State) : Frame [.lines, .spelling] s (cancelBroken s) := by
  unfold cancelBroken
  dsimp only
  refine frame_trans ?_ (frame_mono (forgetWords_frame _ _) (by simp))
  exact foldl_frame _ (fun s n => cancelTicket_frame n s) _ _

/-- The first step of the layout computation touches the line store, the groups, the spelling unit and the notices (R30). -/
theorem resolveLine_frame (t : Table) (s : State) :
    Frame [.lines, .composer, .spelling, .notices] s (resolveLine t s) := by
  have dropped (ids : List Nat) : Frame [.lines, .composer, .spelling, .notices] s (dropLineCells ids s) :=
    frame_mono (dropLineCells_frame ids s) (by simp)
  have widened (cs : List Cell) (u : State) : Frame [.lines, .composer, .spelling, .notices] u (setCurrentCells cs u) :=
    frame_intro (by simp [Same, setCurrentCells, onCurrent])
  have cancelled (ids : List Nat) (u : State) :
      Frame [.lines, .composer, .spelling, .notices] u (if ids = [] then u else cancelBroken u) :=
    ite_frame (frame_refl _ _) (frame_mono (cancelBroken_frame u) (by simp))
  have counted (n : Nat) (u : State) : Frame [.lines, .composer, .spelling, .notices] u (skippedCharacters n u) :=
    frame_mono (skippedCharacters_frame n u) (by simp)
  exact frame_trans (frame_trans (dropped _) (widened _ _)) (frame_trans (cancelled _ _) (counted _ _))

theorem judgeLifting_frame (id : Nat) (s : State) : Frame [.lines, .composer, .spelling] s (judgeLifting id s) := by
  unfold judgeLifting
  split
  · exact frame_refl _ _
  · split
    · exact frame_refl _ _
    · split
      · exact frame_mono (mapCells_frame _ _ s) (by simp)
      · exact dropCells_frame _ _

/-- A captured word changes its cells, the capture counter and the spelling unit (R149). -/
theorem markWord_frame (ids : List Nat) (mark : SpellMark) (ticket : Option Byte) (s : State) :
    Frame [.lines, .composer] s (markWord ids mark ticket s) :=
  frame_intro (by simp [Same, markWord, mapCells, onCells])

/-! ## The dictionary port (R152, R157) -/

theorem readToOutcome_le (word : List Code) (p : BodyProgress) (bs : List Byte) : readToOutcome word p bs ≤ bs.length := by
  induction bs generalizing p with
  | nil => simp [readToOutcome]
  | cons b bs ih =>
    unfold readToOutcome
    split
    · simp
    · simpa using ih _

/-- A transfer reads the bytes from its start address on, none left out. -/
theorem dataBytes_prefix (x : Transfer) (memory : List Byte) : dataBytes x memory <+: memory := by
  unfold dataBytes
  dsimp only
  split
  · exact (List.take_prefix _ _).trans (List.take_prefix _ _)
  · exact List.take_prefix _ _

/-- Each data byte is one item of the transfer, in its order. -/
theorem acknowledgeData_length (bs : List Byte) : (acknowledgeData bs).length = bs.length := by
  induction bs with
  | nil => rfl
  | cons b bs ih => cases bs with
    | nil => rfl
    | cons c cs => simpa [acknowledgeData] using ih

/-! ## Heads that are not taken -/

/-- An entry that is not at an admitted head, or that the composer cannot take, leaves the state. -/
theorem entry_stays {src : Stream} {code : Code} {s : State} (body : State → Option State)
    (h : admitted s src code = false ∨ canTake s = false) : entry src code body s = s := by
  rcases h with h | h <;> simp [entry, h]

/-- A function that flushes leaves the state when it is not at an admitted head. -/
theorem flushing_stays {src : Stream} {code : Code} {s : State} (body : State → Option State)
    (h : admitted s src code = false) : flushing src code body s = s := by
  simp [flushing, h]

/-- What a function that flushes does while the composer takes nothing: it flushes a WORD line, or leaves the state. -/
theorem flushing_waits {src : Stream} {code : Code} {s : State} (body : State → Option State) (h : canTake s = false) :
    flushing src code body s =
      if admitted s src code && (compositionFor s src = .word && holdsHeld s) then closeOpen s else s := by
  cases ha : admitted s src code <;> simp [flushing, h, ha]

/-- A RETURN leaves the state when it is not at an admitted head. -/
theorem composeReturn_stays {src : Stream} {s : State} (h : admitted s src 0x0D = false) : composeReturn src s = s := by
  simp only [composeReturn, h, Bool.false_and, Bool.false_eq_true, if_false, flushing_stays _ h]

/-- A printable code leaves the state when its line is not free to it, or the composer takes nothing. -/
theorem composePrintable_stays {src : Stream} {s : State} (h : freeTo s src = false ∨ canTake s = false) :
    composePrintable src s = s := by
  unfold composePrintable
  split
  · rcases h with h | h <;> simp [h]
  · rfl

end Sys2Proof.Laws
end

