-- ==== Sys2Proof/WellFormed.lean ====
section
/-! DEFINITION. Which commands can arise: payloads a frame can carry, rows that share a request told apart by their action,
transfers that end with as many bytes as they read. -/

namespace Sys2Proof

/-- A payload that a frame can declare (R193). -/
def fitsFrame (payload : List Byte) : Bool := payload.length ≤ 40

/-- Byte `i` of a payload is not one of the actions of the other rows of the same request (notes/assumptions/1.md). -/
def notOther (i : Nat) (others : List Byte) (payload : List Byte) : Bool :=
  match payload[i]? with
  | some b => !others.contains b
  | none => true

/-- What a transfer of `least` to `most` bytes can bring (R152). -/
def brings (least most : Nat) : DictReply → Bool
  | .noAcknowledge => true
  | .data bs => least ≤ bs.length && bs.length ≤ most

/-- A command that can arise. -/
def Instr.wellFormed : Instr → Bool
  | .powerOn => true
  | .resetAssert => true
  | .resetRelease => true
  | .frameBadLength _ => true
  | .shortFrame _ _ => true
  | .overrun _ => true
  | .unknownRequest _ code payload => Machine.namesNoRequest code && fitsFrame payload
  | .answer _ _ => true
  | .keys _ payload => fitsFrame payload
  | .text _ payload => fitsFrame payload
  | .holdLines _ payload => fitsFrame payload
  | .releaseLines _ payload => fitsFrame payload
  | .readDiverted _ payload => fitsFrame payload
  | .takeLine _ payload => fitsFrame payload
  | .setStreams _ payload => fitsFrame payload
  | .setComposition _ payload => fitsFrame payload
  | .setTab _ payload => fitsFrame payload
  | .clearTab _ payload => fitsFrame payload
  | .clearTabs _ payload => fitsFrame payload
  | .setClasses _ payload => fitsFrame payload
  | .loadWheelTableHeader _ payload => fitsFrame payload && notOther 0 [1, 2] payload
  | .loadWheelTableEntries _ payload => fitsFrame payload && notOther 0 [0, 2] payload
  | .loadWheelTableFinal _ payload => fitsFrame payload && notOther 0 [0, 1] payload
  | .eraseWheelTable _ payload => fitsFrame payload
  | .wheelReport _ payload => fitsFrame payload
  | .fetchOrder _ payload => fitsFrame payload
  | .orderDone _ payload => fitsFrame payload
  | .resume _ payload => fitsFrame payload
  | .discard _ payload => fitsFrame payload
  | .forceHome _ payload => fitsFrame payload
  | .setHomeInterval _ payload => fitsFrame payload
  | .cancelLifts _ payload => fitsFrame payload
  | .readNextOrder _ payload => fitsFrame payload
  | .setEnergy _ payload => fitsFrame payload
  | .setSpelling _ payload => fitsFrame payload
  | .setSkipRule _ payload => fitsFrame payload
  | .addWord _ payload => fitsFrame payload
  | .removeWord _ payload => fitsFrame payload
  | .spellAnswerAccept _ payload => fitsFrame payload && notOther 1 [1, 2] payload
  | .spellAnswerAdd _ payload => fitsFrame payload && notOther 1 [0, 2] payload
  | .spellAnswerReject _ payload => fitsFrame payload && notOther 1 [0, 1] payload
  | .showMessage _ payload => fitsFrame payload
  | .clearMessage _ payload => fitsFrame payload
  | .setSignals _ payload => fitsFrame payload
  | .setLamps _ payload => fitsFrame payload
  | .clearLamps _ payload => fitsFrame payload
  | .beep _ payload => fitsFrame payload
  | .supplyNew _ payload => fitsFrame payload
  | .setCounter _ payload => fitsFrame payload
  | .countersFreeze _ payload => fitsFrame payload && notOther 0 [1, 2] payload
  | .countersRun _ payload => fitsFrame payload && notOther 0 [0, 2] payload
  | .countersClear _ payload => fitsFrame payload && notOther 0 [0, 1] payload
  | .setStepping _ payload => fitsFrame payload
  | .stepRequest _ payload => fitsFrame payload
  | .get _ payload => fitsFrame payload
  | .readStatus _ payload => fitsFrame payload
  | .readLine _ payload => fitsFrame payload
  | .takeNotice _ payload => fitsFrame payload
  | .readNotice _ payload => fitsFrame payload
  | .setNoticeRoute _ payload => fitsFrame payload
  | .softRestart _ payload => fitsFrame payload
  | .composePrintable _ => true
  | .backspace _ => true
  | .tab _ => true
  | .index _ => true
  | .reverseIndex _ => true
  | .halfUp _ => true
  | .halfDown _ => true
  | .carriageReturn _ => true
  | .boldOn _ => true
  | .boldOff _ => true
  | .underlineOn _ => true
  | .underlineOff _ => true
  | .correct => true
  | .wordCorrect => true
  | .lineCorrect => true
  | .relocate => true
  | .cursorLeft => true
  | .cursorRight => true
  | .delete => true
  | .marginRelease => true
  | .centre _ => true
  | .flushRight _ => true
  | .clearLine => true
  | .notHolderDrop _ => true
  | .divertKey => true
  | .wordGroupRelease => true
  | .wordWrap => true
  | .groupCellIssue => true
  | .lineCellIssue => true
  | .heldOrderAppend => true
  | .homeAppend => true
  | .homeCountExpiry => true
  | .refillExpiry => true
  | .holdLapseExpiry => true
  | .sensePinChange _ _ => true
  | .filterTimerExpiry _ => true
  | .beepTimerExpiry => true
  | .messageExpiry => true
  | .displaySnapshot _ => true
  | .displayByteSent _ => true
  | .busyWaitExpiry => true
  | .retryTimerExpiry _ => true
  | .headerTransferStart => true
  | .headerTransferEnd reply => brings 8 8 reply
  | .lookupStart => true
  | .directoryTransferEnd reply => brings 6 6 reply
  | .bodyTransferEnd reply => brings 1 128 reply

end Sys2Proof
end

