-- ==== Sys2Proof/Laws/PerInstr.lean ====
section
/-! SUPPORT. Laws of the commands as data, one lemma for each: the family PayloadFits. -/

open Sys2Proof.Safety

/-- A request that can arise carries a payload that a frame can declare: at most 40 bytes (R193). -/
def Sys2Proof.Laws.PayloadFits.Statement (i : Sys2Proof.Instr) : Prop :=
  i.wellFormed = true → ∀ k st p, requestOf i = some (k, st, p) → p.length ≤ 40

/-- A command that is no request carries no payload. -/
theorem Sys2Proof.Laws.payloadFits_of_no_request {i : Sys2Proof.Instr} (h : requestOf i = none) :
    Sys2Proof.Laws.PayloadFits.Statement i := fun _ _ _ _ hr => by simp [h] at hr

/-- A request whose well-formedness bounds its payload. -/
theorem Sys2Proof.Laws.payloadFits_of_request {i : Sys2Proof.Instr} {k st p} (h : requestOf i = some (k, st, p))
    (hw : i.wellFormed = true → Sys2Proof.fitsFrame p = true) : Sys2Proof.Laws.PayloadFits.Statement i := by
  intro hi k' st' p' hr
  obtain ⟨-, -, rfl⟩ : k = k' ∧ st = st' ∧ p = p' := by simpa [h] using hr
  exact of_decide_eq_true (hw hi)

/-- The first of two checks that hold together. -/
theorem Sys2Proof.Laws.left_of_and {a b : Bool} (h : (a && b) = true) : a = true := by
  cases a <;> simp_all

theorem Sys2Proof.Laws.PayloadFits.powerOn :
    Sys2Proof.Laws.PayloadFits.Statement (.powerOn) :=
  Sys2Proof.Laws.payloadFits_of_no_request rfl

theorem Sys2Proof.Laws.PayloadFits.resetAssert :
    Sys2Proof.Laws.PayloadFits.Statement (.resetAssert) :=
  Sys2Proof.Laws.payloadFits_of_no_request rfl

theorem Sys2Proof.Laws.PayloadFits.resetRelease :
    Sys2Proof.Laws.PayloadFits.Statement (.resetRelease) :=
  Sys2Proof.Laws.payloadFits_of_no_request rfl

theorem Sys2Proof.Laws.PayloadFits.frameBadLength (x0 : Sys2Proof.Station) :
    Sys2Proof.Laws.PayloadFits.Statement (.frameBadLength x0) :=
  Sys2Proof.Laws.payloadFits_of_no_request rfl

theorem Sys2Proof.Laws.PayloadFits.shortFrame (x0 : Sys2Proof.Station) (x1 : Bool) :
    Sys2Proof.Laws.PayloadFits.Statement (.shortFrame x0 x1) :=
  Sys2Proof.Laws.payloadFits_of_no_request rfl

theorem Sys2Proof.Laws.PayloadFits.overrun (x0 : Sys2Proof.Station) :
    Sys2Proof.Laws.PayloadFits.Statement (.overrun x0) :=
  Sys2Proof.Laws.payloadFits_of_no_request rfl

theorem Sys2Proof.Laws.PayloadFits.unknownRequest (x0 : Sys2Proof.Station) (x1 : Sys2Proof.Byte) (x2 : List Sys2Proof.Byte) :
    Sys2Proof.Laws.PayloadFits.Statement (.unknownRequest x0 x1 x2) :=
  Sys2Proof.Laws.payloadFits_of_no_request rfl

theorem Sys2Proof.Laws.PayloadFits.answer (x0 : Sys2Proof.Station) (x1 : Bool) :
    Sys2Proof.Laws.PayloadFits.Statement (.answer x0 x1) :=
  Sys2Proof.Laws.payloadFits_of_no_request rfl

theorem Sys2Proof.Laws.PayloadFits.keys (x0 : Sys2Proof.Station) (x1 : List Sys2Proof.Byte) :
    Sys2Proof.Laws.PayloadFits.Statement (.keys x0 x1) :=
  Sys2Proof.Laws.payloadFits_of_request rfl id

theorem Sys2Proof.Laws.PayloadFits.text (x0 : Sys2Proof.Station) (x1 : List Sys2Proof.Byte) :
    Sys2Proof.Laws.PayloadFits.Statement (.text x0 x1) :=
  Sys2Proof.Laws.payloadFits_of_request rfl id

theorem Sys2Proof.Laws.PayloadFits.holdLines (x0 : Sys2Proof.Station) (x1 : List Sys2Proof.Byte) :
    Sys2Proof.Laws.PayloadFits.Statement (.holdLines x0 x1) :=
  Sys2Proof.Laws.payloadFits_of_request rfl id

theorem Sys2Proof.Laws.PayloadFits.releaseLines (x0 : Sys2Proof.Station) (x1 : List Sys2Proof.Byte) :
    Sys2Proof.Laws.PayloadFits.Statement (.releaseLines x0 x1) :=
  Sys2Proof.Laws.payloadFits_of_request rfl id

theorem Sys2Proof.Laws.PayloadFits.readDiverted (x0 : Sys2Proof.Station) (x1 : List Sys2Proof.Byte) :
    Sys2Proof.Laws.PayloadFits.Statement (.readDiverted x0 x1) :=
  Sys2Proof.Laws.payloadFits_of_request rfl id

theorem Sys2Proof.Laws.PayloadFits.takeLine (x0 : Sys2Proof.Station) (x1 : List Sys2Proof.Byte) :
    Sys2Proof.Laws.PayloadFits.Statement (.takeLine x0 x1) :=
  Sys2Proof.Laws.payloadFits_of_request rfl id

theorem Sys2Proof.Laws.PayloadFits.setStreams (x0 : Sys2Proof.Station) (x1 : List Sys2Proof.Byte) :
    Sys2Proof.Laws.PayloadFits.Statement (.setStreams x0 x1) :=
  Sys2Proof.Laws.payloadFits_of_request rfl id

theorem Sys2Proof.Laws.PayloadFits.setComposition (x0 : Sys2Proof.Station) (x1 : List Sys2Proof.Byte) :
    Sys2Proof.Laws.PayloadFits.Statement (.setComposition x0 x1) :=
  Sys2Proof.Laws.payloadFits_of_request rfl id

theorem Sys2Proof.Laws.PayloadFits.setTab (x0 : Sys2Proof.Station) (x1 : List Sys2Proof.Byte) :
    Sys2Proof.Laws.PayloadFits.Statement (.setTab x0 x1) :=
  Sys2Proof.Laws.payloadFits_of_request rfl id

theorem Sys2Proof.Laws.PayloadFits.clearTab (x0 : Sys2Proof.Station) (x1 : List Sys2Proof.Byte) :
    Sys2Proof.Laws.PayloadFits.Statement (.clearTab x0 x1) :=
  Sys2Proof.Laws.payloadFits_of_request rfl id

theorem Sys2Proof.Laws.PayloadFits.clearTabs (x0 : Sys2Proof.Station) (x1 : List Sys2Proof.Byte) :
    Sys2Proof.Laws.PayloadFits.Statement (.clearTabs x0 x1) :=
  Sys2Proof.Laws.payloadFits_of_request rfl id

theorem Sys2Proof.Laws.PayloadFits.setClasses (x0 : Sys2Proof.Station) (x1 : List Sys2Proof.Byte) :
    Sys2Proof.Laws.PayloadFits.Statement (.setClasses x0 x1) :=
  Sys2Proof.Laws.payloadFits_of_request rfl id

theorem Sys2Proof.Laws.PayloadFits.loadWheelTableHeader (x0 : Sys2Proof.Station) (x1 : List Sys2Proof.Byte) :
    Sys2Proof.Laws.PayloadFits.Statement (.loadWheelTableHeader x0 x1) :=
  Sys2Proof.Laws.payloadFits_of_request rfl Sys2Proof.Laws.left_of_and

theorem Sys2Proof.Laws.PayloadFits.loadWheelTableEntries (x0 : Sys2Proof.Station) (x1 : List Sys2Proof.Byte) :
    Sys2Proof.Laws.PayloadFits.Statement (.loadWheelTableEntries x0 x1) :=
  Sys2Proof.Laws.payloadFits_of_request rfl Sys2Proof.Laws.left_of_and

theorem Sys2Proof.Laws.PayloadFits.loadWheelTableFinal (x0 : Sys2Proof.Station) (x1 : List Sys2Proof.Byte) :
    Sys2Proof.Laws.PayloadFits.Statement (.loadWheelTableFinal x0 x1) :=
  Sys2Proof.Laws.payloadFits_of_request rfl Sys2Proof.Laws.left_of_and

theorem Sys2Proof.Laws.PayloadFits.eraseWheelTable (x0 : Sys2Proof.Station) (x1 : List Sys2Proof.Byte) :
    Sys2Proof.Laws.PayloadFits.Statement (.eraseWheelTable x0 x1) :=
  Sys2Proof.Laws.payloadFits_of_request rfl id

theorem Sys2Proof.Laws.PayloadFits.wheelReport (x0 : Sys2Proof.Station) (x1 : List Sys2Proof.Byte) :
    Sys2Proof.Laws.PayloadFits.Statement (.wheelReport x0 x1) :=
  Sys2Proof.Laws.payloadFits_of_request rfl id

theorem Sys2Proof.Laws.PayloadFits.fetchOrder (x0 : Sys2Proof.Station) (x1 : List Sys2Proof.Byte) :
    Sys2Proof.Laws.PayloadFits.Statement (.fetchOrder x0 x1) :=
  Sys2Proof.Laws.payloadFits_of_request rfl id

theorem Sys2Proof.Laws.PayloadFits.orderDone (x0 : Sys2Proof.Station) (x1 : List Sys2Proof.Byte) :
    Sys2Proof.Laws.PayloadFits.Statement (.orderDone x0 x1) :=
  Sys2Proof.Laws.payloadFits_of_request rfl id

theorem Sys2Proof.Laws.PayloadFits.resume (x0 : Sys2Proof.Station) (x1 : List Sys2Proof.Byte) :
    Sys2Proof.Laws.PayloadFits.Statement (.resume x0 x1) :=
  Sys2Proof.Laws.payloadFits_of_request rfl id

theorem Sys2Proof.Laws.PayloadFits.discard (x0 : Sys2Proof.Station) (x1 : List Sys2Proof.Byte) :
    Sys2Proof.Laws.PayloadFits.Statement (.discard x0 x1) :=
  Sys2Proof.Laws.payloadFits_of_request rfl id

theorem Sys2Proof.Laws.PayloadFits.forceHome (x0 : Sys2Proof.Station) (x1 : List Sys2Proof.Byte) :
    Sys2Proof.Laws.PayloadFits.Statement (.forceHome x0 x1) :=
  Sys2Proof.Laws.payloadFits_of_request rfl id

theorem Sys2Proof.Laws.PayloadFits.setHomeInterval (x0 : Sys2Proof.Station) (x1 : List Sys2Proof.Byte) :
    Sys2Proof.Laws.PayloadFits.Statement (.setHomeInterval x0 x1) :=
  Sys2Proof.Laws.payloadFits_of_request rfl id

theorem Sys2Proof.Laws.PayloadFits.cancelLifts (x0 : Sys2Proof.Station) (x1 : List Sys2Proof.Byte) :
    Sys2Proof.Laws.PayloadFits.Statement (.cancelLifts x0 x1) :=
  Sys2Proof.Laws.payloadFits_of_request rfl id

theorem Sys2Proof.Laws.PayloadFits.readNextOrder (x0 : Sys2Proof.Station) (x1 : List Sys2Proof.Byte) :
    Sys2Proof.Laws.PayloadFits.Statement (.readNextOrder x0 x1) :=
  Sys2Proof.Laws.payloadFits_of_request rfl id

theorem Sys2Proof.Laws.PayloadFits.setEnergy (x0 : Sys2Proof.Station) (x1 : List Sys2Proof.Byte) :
    Sys2Proof.Laws.PayloadFits.Statement (.setEnergy x0 x1) :=
  Sys2Proof.Laws.payloadFits_of_request rfl id

theorem Sys2Proof.Laws.PayloadFits.setSpelling (x0 : Sys2Proof.Station) (x1 : List Sys2Proof.Byte) :
    Sys2Proof.Laws.PayloadFits.Statement (.setSpelling x0 x1) :=
  Sys2Proof.Laws.payloadFits_of_request rfl id

theorem Sys2Proof.Laws.PayloadFits.setSkipRule (x0 : Sys2Proof.Station) (x1 : List Sys2Proof.Byte) :
    Sys2Proof.Laws.PayloadFits.Statement (.setSkipRule x0 x1) :=
  Sys2Proof.Laws.payloadFits_of_request rfl id

theorem Sys2Proof.Laws.PayloadFits.addWord (x0 : Sys2Proof.Station) (x1 : List Sys2Proof.Byte) :
    Sys2Proof.Laws.PayloadFits.Statement (.addWord x0 x1) :=
  Sys2Proof.Laws.payloadFits_of_request rfl id

theorem Sys2Proof.Laws.PayloadFits.removeWord (x0 : Sys2Proof.Station) (x1 : List Sys2Proof.Byte) :
    Sys2Proof.Laws.PayloadFits.Statement (.removeWord x0 x1) :=
  Sys2Proof.Laws.payloadFits_of_request rfl id

theorem Sys2Proof.Laws.PayloadFits.spellAnswerAccept (x0 : Sys2Proof.Station) (x1 : List Sys2Proof.Byte) :
    Sys2Proof.Laws.PayloadFits.Statement (.spellAnswerAccept x0 x1) :=
  Sys2Proof.Laws.payloadFits_of_request rfl Sys2Proof.Laws.left_of_and

theorem Sys2Proof.Laws.PayloadFits.spellAnswerAdd (x0 : Sys2Proof.Station) (x1 : List Sys2Proof.Byte) :
    Sys2Proof.Laws.PayloadFits.Statement (.spellAnswerAdd x0 x1) :=
  Sys2Proof.Laws.payloadFits_of_request rfl Sys2Proof.Laws.left_of_and

theorem Sys2Proof.Laws.PayloadFits.spellAnswerReject (x0 : Sys2Proof.Station) (x1 : List Sys2Proof.Byte) :
    Sys2Proof.Laws.PayloadFits.Statement (.spellAnswerReject x0 x1) :=
  Sys2Proof.Laws.payloadFits_of_request rfl Sys2Proof.Laws.left_of_and

theorem Sys2Proof.Laws.PayloadFits.showMessage (x0 : Sys2Proof.Station) (x1 : List Sys2Proof.Byte) :
    Sys2Proof.Laws.PayloadFits.Statement (.showMessage x0 x1) :=
  Sys2Proof.Laws.payloadFits_of_request rfl id

theorem Sys2Proof.Laws.PayloadFits.clearMessage (x0 : Sys2Proof.Station) (x1 : List Sys2Proof.Byte) :
    Sys2Proof.Laws.PayloadFits.Statement (.clearMessage x0 x1) :=
  Sys2Proof.Laws.payloadFits_of_request rfl id

theorem Sys2Proof.Laws.PayloadFits.setSignals (x0 : Sys2Proof.Station) (x1 : List Sys2Proof.Byte) :
    Sys2Proof.Laws.PayloadFits.Statement (.setSignals x0 x1) :=
  Sys2Proof.Laws.payloadFits_of_request rfl id

theorem Sys2Proof.Laws.PayloadFits.setLamps (x0 : Sys2Proof.Station) (x1 : List Sys2Proof.Byte) :
    Sys2Proof.Laws.PayloadFits.Statement (.setLamps x0 x1) :=
  Sys2Proof.Laws.payloadFits_of_request rfl id

theorem Sys2Proof.Laws.PayloadFits.clearLamps (x0 : Sys2Proof.Station) (x1 : List Sys2Proof.Byte) :
    Sys2Proof.Laws.PayloadFits.Statement (.clearLamps x0 x1) :=
  Sys2Proof.Laws.payloadFits_of_request rfl id

theorem Sys2Proof.Laws.PayloadFits.beep (x0 : Sys2Proof.Station) (x1 : List Sys2Proof.Byte) :
    Sys2Proof.Laws.PayloadFits.Statement (.beep x0 x1) :=
  Sys2Proof.Laws.payloadFits_of_request rfl id

theorem Sys2Proof.Laws.PayloadFits.supplyNew (x0 : Sys2Proof.Station) (x1 : List Sys2Proof.Byte) :
    Sys2Proof.Laws.PayloadFits.Statement (.supplyNew x0 x1) :=
  Sys2Proof.Laws.payloadFits_of_request rfl id

theorem Sys2Proof.Laws.PayloadFits.setCounter (x0 : Sys2Proof.Station) (x1 : List Sys2Proof.Byte) :
    Sys2Proof.Laws.PayloadFits.Statement (.setCounter x0 x1) :=
  Sys2Proof.Laws.payloadFits_of_request rfl id

theorem Sys2Proof.Laws.PayloadFits.countersFreeze (x0 : Sys2Proof.Station) (x1 : List Sys2Proof.Byte) :
    Sys2Proof.Laws.PayloadFits.Statement (.countersFreeze x0 x1) :=
  Sys2Proof.Laws.payloadFits_of_request rfl Sys2Proof.Laws.left_of_and

theorem Sys2Proof.Laws.PayloadFits.countersRun (x0 : Sys2Proof.Station) (x1 : List Sys2Proof.Byte) :
    Sys2Proof.Laws.PayloadFits.Statement (.countersRun x0 x1) :=
  Sys2Proof.Laws.payloadFits_of_request rfl Sys2Proof.Laws.left_of_and

theorem Sys2Proof.Laws.PayloadFits.countersClear (x0 : Sys2Proof.Station) (x1 : List Sys2Proof.Byte) :
    Sys2Proof.Laws.PayloadFits.Statement (.countersClear x0 x1) :=
  Sys2Proof.Laws.payloadFits_of_request rfl Sys2Proof.Laws.left_of_and

theorem Sys2Proof.Laws.PayloadFits.setStepping (x0 : Sys2Proof.Station) (x1 : List Sys2Proof.Byte) :
    Sys2Proof.Laws.PayloadFits.Statement (.setStepping x0 x1) :=
  Sys2Proof.Laws.payloadFits_of_request rfl id

theorem Sys2Proof.Laws.PayloadFits.stepRequest (x0 : Sys2Proof.Station) (x1 : List Sys2Proof.Byte) :
    Sys2Proof.Laws.PayloadFits.Statement (.stepRequest x0 x1) :=
  Sys2Proof.Laws.payloadFits_of_request rfl id

theorem Sys2Proof.Laws.PayloadFits.get (x0 : Sys2Proof.Station) (x1 : List Sys2Proof.Byte) :
    Sys2Proof.Laws.PayloadFits.Statement (.get x0 x1) :=
  Sys2Proof.Laws.payloadFits_of_request rfl id

theorem Sys2Proof.Laws.PayloadFits.readStatus (x0 : Sys2Proof.Station) (x1 : List Sys2Proof.Byte) :
    Sys2Proof.Laws.PayloadFits.Statement (.readStatus x0 x1) :=
  Sys2Proof.Laws.payloadFits_of_request rfl id

theorem Sys2Proof.Laws.PayloadFits.readLine (x0 : Sys2Proof.Station) (x1 : List Sys2Proof.Byte) :
    Sys2Proof.Laws.PayloadFits.Statement (.readLine x0 x1) :=
  Sys2Proof.Laws.payloadFits_of_request rfl id

theorem Sys2Proof.Laws.PayloadFits.takeNotice (x0 : Sys2Proof.Station) (x1 : List Sys2Proof.Byte) :
    Sys2Proof.Laws.PayloadFits.Statement (.takeNotice x0 x1) :=
  Sys2Proof.Laws.payloadFits_of_request rfl id

theorem Sys2Proof.Laws.PayloadFits.readNotice (x0 : Sys2Proof.Station) (x1 : List Sys2Proof.Byte) :
    Sys2Proof.Laws.PayloadFits.Statement (.readNotice x0 x1) :=
  Sys2Proof.Laws.payloadFits_of_request rfl id

theorem Sys2Proof.Laws.PayloadFits.setNoticeRoute (x0 : Sys2Proof.Station) (x1 : List Sys2Proof.Byte) :
    Sys2Proof.Laws.PayloadFits.Statement (.setNoticeRoute x0 x1) :=
  Sys2Proof.Laws.payloadFits_of_request rfl id

theorem Sys2Proof.Laws.PayloadFits.softRestart (x0 : Sys2Proof.Station) (x1 : List Sys2Proof.Byte) :
    Sys2Proof.Laws.PayloadFits.Statement (.softRestart x0 x1) :=
  Sys2Proof.Laws.payloadFits_of_request rfl id

theorem Sys2Proof.Laws.PayloadFits.composePrintable (x0 : Sys2Proof.Stream) :
    Sys2Proof.Laws.PayloadFits.Statement (.composePrintable x0) :=
  Sys2Proof.Laws.payloadFits_of_no_request rfl

theorem Sys2Proof.Laws.PayloadFits.backspace (x0 : Sys2Proof.Stream) :
    Sys2Proof.Laws.PayloadFits.Statement (.backspace x0) :=
  Sys2Proof.Laws.payloadFits_of_no_request rfl

theorem Sys2Proof.Laws.PayloadFits.tab (x0 : Sys2Proof.Stream) :
    Sys2Proof.Laws.PayloadFits.Statement (.tab x0) :=
  Sys2Proof.Laws.payloadFits_of_no_request rfl

theorem Sys2Proof.Laws.PayloadFits.index (x0 : Sys2Proof.Stream) :
    Sys2Proof.Laws.PayloadFits.Statement (.index x0) :=
  Sys2Proof.Laws.payloadFits_of_no_request rfl

theorem Sys2Proof.Laws.PayloadFits.reverseIndex (x0 : Sys2Proof.Stream) :
    Sys2Proof.Laws.PayloadFits.Statement (.reverseIndex x0) :=
  Sys2Proof.Laws.payloadFits_of_no_request rfl

theorem Sys2Proof.Laws.PayloadFits.halfUp (x0 : Sys2Proof.Stream) :
    Sys2Proof.Laws.PayloadFits.Statement (.halfUp x0) :=
  Sys2Proof.Laws.payloadFits_of_no_request rfl

theorem Sys2Proof.Laws.PayloadFits.halfDown (x0 : Sys2Proof.Stream) :
    Sys2Proof.Laws.PayloadFits.Statement (.halfDown x0) :=
  Sys2Proof.Laws.payloadFits_of_no_request rfl

theorem Sys2Proof.Laws.PayloadFits.carriageReturn (x0 : Sys2Proof.Stream) :
    Sys2Proof.Laws.PayloadFits.Statement (.carriageReturn x0) :=
  Sys2Proof.Laws.payloadFits_of_no_request rfl

theorem Sys2Proof.Laws.PayloadFits.boldOn (x0 : Sys2Proof.Stream) :
    Sys2Proof.Laws.PayloadFits.Statement (.boldOn x0) :=
  Sys2Proof.Laws.payloadFits_of_no_request rfl

theorem Sys2Proof.Laws.PayloadFits.boldOff (x0 : Sys2Proof.Stream) :
    Sys2Proof.Laws.PayloadFits.Statement (.boldOff x0) :=
  Sys2Proof.Laws.payloadFits_of_no_request rfl

theorem Sys2Proof.Laws.PayloadFits.underlineOn (x0 : Sys2Proof.Stream) :
    Sys2Proof.Laws.PayloadFits.Statement (.underlineOn x0) :=
  Sys2Proof.Laws.payloadFits_of_no_request rfl

theorem Sys2Proof.Laws.PayloadFits.underlineOff (x0 : Sys2Proof.Stream) :
    Sys2Proof.Laws.PayloadFits.Statement (.underlineOff x0) :=
  Sys2Proof.Laws.payloadFits_of_no_request rfl

theorem Sys2Proof.Laws.PayloadFits.correct :
    Sys2Proof.Laws.PayloadFits.Statement (.correct) :=
  Sys2Proof.Laws.payloadFits_of_no_request rfl

theorem Sys2Proof.Laws.PayloadFits.wordCorrect :
    Sys2Proof.Laws.PayloadFits.Statement (.wordCorrect) :=
  Sys2Proof.Laws.payloadFits_of_no_request rfl

theorem Sys2Proof.Laws.PayloadFits.lineCorrect :
    Sys2Proof.Laws.PayloadFits.Statement (.lineCorrect) :=
  Sys2Proof.Laws.payloadFits_of_no_request rfl

theorem Sys2Proof.Laws.PayloadFits.relocate :
    Sys2Proof.Laws.PayloadFits.Statement (.relocate) :=
  Sys2Proof.Laws.payloadFits_of_no_request rfl

theorem Sys2Proof.Laws.PayloadFits.cursorLeft :
    Sys2Proof.Laws.PayloadFits.Statement (.cursorLeft) :=
  Sys2Proof.Laws.payloadFits_of_no_request rfl

theorem Sys2Proof.Laws.PayloadFits.cursorRight :
    Sys2Proof.Laws.PayloadFits.Statement (.cursorRight) :=
  Sys2Proof.Laws.payloadFits_of_no_request rfl

theorem Sys2Proof.Laws.PayloadFits.delete :
    Sys2Proof.Laws.PayloadFits.Statement (.delete) :=
  Sys2Proof.Laws.payloadFits_of_no_request rfl

theorem Sys2Proof.Laws.PayloadFits.marginRelease :
    Sys2Proof.Laws.PayloadFits.Statement (.marginRelease) :=
  Sys2Proof.Laws.payloadFits_of_no_request rfl

theorem Sys2Proof.Laws.PayloadFits.centre (x0 : Sys2Proof.Stream) :
    Sys2Proof.Laws.PayloadFits.Statement (.centre x0) :=
  Sys2Proof.Laws.payloadFits_of_no_request rfl

theorem Sys2Proof.Laws.PayloadFits.flushRight (x0 : Sys2Proof.Stream) :
    Sys2Proof.Laws.PayloadFits.Statement (.flushRight x0) :=
  Sys2Proof.Laws.payloadFits_of_no_request rfl

theorem Sys2Proof.Laws.PayloadFits.clearLine :
    Sys2Proof.Laws.PayloadFits.Statement (.clearLine) :=
  Sys2Proof.Laws.payloadFits_of_no_request rfl

theorem Sys2Proof.Laws.PayloadFits.notHolderDrop (x0 : Sys2Proof.Stream) :
    Sys2Proof.Laws.PayloadFits.Statement (.notHolderDrop x0) :=
  Sys2Proof.Laws.payloadFits_of_no_request rfl

theorem Sys2Proof.Laws.PayloadFits.divertKey :
    Sys2Proof.Laws.PayloadFits.Statement (.divertKey) :=
  Sys2Proof.Laws.payloadFits_of_no_request rfl

theorem Sys2Proof.Laws.PayloadFits.wordGroupRelease :
    Sys2Proof.Laws.PayloadFits.Statement (.wordGroupRelease) :=
  Sys2Proof.Laws.payloadFits_of_no_request rfl

theorem Sys2Proof.Laws.PayloadFits.wordWrap :
    Sys2Proof.Laws.PayloadFits.Statement (.wordWrap) :=
  Sys2Proof.Laws.payloadFits_of_no_request rfl

theorem Sys2Proof.Laws.PayloadFits.groupCellIssue :
    Sys2Proof.Laws.PayloadFits.Statement (.groupCellIssue) :=
  Sys2Proof.Laws.payloadFits_of_no_request rfl

theorem Sys2Proof.Laws.PayloadFits.lineCellIssue :
    Sys2Proof.Laws.PayloadFits.Statement (.lineCellIssue) :=
  Sys2Proof.Laws.payloadFits_of_no_request rfl

theorem Sys2Proof.Laws.PayloadFits.heldOrderAppend :
    Sys2Proof.Laws.PayloadFits.Statement (.heldOrderAppend) :=
  Sys2Proof.Laws.payloadFits_of_no_request rfl

theorem Sys2Proof.Laws.PayloadFits.homeAppend :
    Sys2Proof.Laws.PayloadFits.Statement (.homeAppend) :=
  Sys2Proof.Laws.payloadFits_of_no_request rfl

theorem Sys2Proof.Laws.PayloadFits.homeCountExpiry :
    Sys2Proof.Laws.PayloadFits.Statement (.homeCountExpiry) :=
  Sys2Proof.Laws.payloadFits_of_no_request rfl

theorem Sys2Proof.Laws.PayloadFits.refillExpiry :
    Sys2Proof.Laws.PayloadFits.Statement (.refillExpiry) :=
  Sys2Proof.Laws.payloadFits_of_no_request rfl

theorem Sys2Proof.Laws.PayloadFits.holdLapseExpiry :
    Sys2Proof.Laws.PayloadFits.Statement (.holdLapseExpiry) :=
  Sys2Proof.Laws.payloadFits_of_no_request rfl

theorem Sys2Proof.Laws.PayloadFits.sensePinChange (x0 : Sys2Proof.SenseInput) (x1 : Bool) :
    Sys2Proof.Laws.PayloadFits.Statement (.sensePinChange x0 x1) :=
  Sys2Proof.Laws.payloadFits_of_no_request rfl

theorem Sys2Proof.Laws.PayloadFits.filterTimerExpiry (x0 : Sys2Proof.SenseInput) :
    Sys2Proof.Laws.PayloadFits.Statement (.filterTimerExpiry x0) :=
  Sys2Proof.Laws.payloadFits_of_no_request rfl

theorem Sys2Proof.Laws.PayloadFits.beepTimerExpiry :
    Sys2Proof.Laws.PayloadFits.Statement (.beepTimerExpiry) :=
  Sys2Proof.Laws.payloadFits_of_no_request rfl

theorem Sys2Proof.Laws.PayloadFits.messageExpiry :
    Sys2Proof.Laws.PayloadFits.Statement (.messageExpiry) :=
  Sys2Proof.Laws.payloadFits_of_no_request rfl

theorem Sys2Proof.Laws.PayloadFits.displaySnapshot (x0 : Bool) :
    Sys2Proof.Laws.PayloadFits.Statement (.displaySnapshot x0) :=
  Sys2Proof.Laws.payloadFits_of_no_request rfl

theorem Sys2Proof.Laws.PayloadFits.displayByteSent (x0 : Bool) :
    Sys2Proof.Laws.PayloadFits.Statement (.displayByteSent x0) :=
  Sys2Proof.Laws.payloadFits_of_no_request rfl

theorem Sys2Proof.Laws.PayloadFits.busyWaitExpiry :
    Sys2Proof.Laws.PayloadFits.Statement (.busyWaitExpiry) :=
  Sys2Proof.Laws.payloadFits_of_no_request rfl

theorem Sys2Proof.Laws.PayloadFits.retryTimerExpiry (x0 : Bool) :
    Sys2Proof.Laws.PayloadFits.Statement (.retryTimerExpiry x0) :=
  Sys2Proof.Laws.payloadFits_of_no_request rfl

theorem Sys2Proof.Laws.PayloadFits.headerTransferStart :
    Sys2Proof.Laws.PayloadFits.Statement (.headerTransferStart) :=
  Sys2Proof.Laws.payloadFits_of_no_request rfl

theorem Sys2Proof.Laws.PayloadFits.headerTransferEnd (x0 : Sys2Proof.DictReply) :
    Sys2Proof.Laws.PayloadFits.Statement (.headerTransferEnd x0) :=
  Sys2Proof.Laws.payloadFits_of_no_request rfl

theorem Sys2Proof.Laws.PayloadFits.lookupStart :
    Sys2Proof.Laws.PayloadFits.Statement (.lookupStart) :=
  Sys2Proof.Laws.payloadFits_of_no_request rfl

theorem Sys2Proof.Laws.PayloadFits.directoryTransferEnd (x0 : Sys2Proof.DictReply) :
    Sys2Proof.Laws.PayloadFits.Statement (.directoryTransferEnd x0) :=
  Sys2Proof.Laws.payloadFits_of_no_request rfl

theorem Sys2Proof.Laws.PayloadFits.bodyTransferEnd (x0 : Sys2Proof.DictReply) :
    Sys2Proof.Laws.PayloadFits.Statement (.bodyTransferEnd x0) :=
  Sys2Proof.Laws.payloadFits_of_no_request rfl
end

