-- ==== Sys2Proof/Tests/Slice0.lean ====
section
/-! SUPPORT. Tests: ill-formed commands, the worked figures of spec/, and for each statement of
Sys2Proof/Certificates/Slice0/Obligations.lean states and operands that meet its hypotheses. -/

namespace Sys2Proof.Tests

set_option Elab.async false

open Sys2Proof Sys2Proof.Machine Sys2Proof.Safety

/-! ## Helpers -/

/-- The outcome is a next state that passes a test. -/
def leads (o : Host.Outcome State Fault Refusal) (p : State → Bool) : Bool :=
  match o with
  | .next t => p t
  | .fault _ => false
  | .refused _ => false

/-- The status of the answer a link holds. -/
def statusOn (t : State) (st : Station) : Option Status :=
  match (linkOf t st).answer with
  | .held a => some a.status
  | _ => none

/-- The payload of the answer a link holds. -/
def payloadOn (t : State) (st : Station) : List Byte :=
  match (linkOf t st).answer with
  | .held a => a.payload
  | _ => []

/-- A request that is answered with a status. -/
def answers (o : Host.Outcome State Fault Refusal) (st : Station) (status : Status) : Bool :=
  leads o fun t => statusOn t st = some status

/-- A PS wheel with ID 7, underscore petal 60 and space width 3: every code SPACING of 5 units and class 2, but 0x5E
NONSPACING, 0xE9 COMPOSITE and 0x7F not on wheel. -/
def wheel7 : Table :=
  ⟨⟨7, .ps, 60, 3⟩, (List.range 224).map fun n =>
    if n = 0x5E - 0x20 then ⟨some 50, 5, 1, .nonspacing, none⟩
    else if n = 0xE9 - 0x20 then ⟨some 41, 5, 2, .composite, some 88⟩
    else if n = 0x7F - 0x20 then ⟨none, 3, 2, .spacing, none⟩
    else ⟨some 15, 5, 2, .spacing, none⟩⟩

/-- After reset, with wheel 7 mounted and its table LOADED in slot 0. -/
def ready : State :=
  { State.reset with wheels := { State.reset.wheels with
      slots := [.loaded wheel7.header wheel7.entries, .empty, .empty, .empty], mounted := 7 } }

/-- `ready` with the four sense inputs settled NEGATED. -/
def running : State :=
  let off : Sense := ⟨false, .negated, none, false⟩
  { ready with signals := { ready.signals with cover := off, paper := off, ribbon := off, tape := off } }

/-- `ready` with codes in the type-ahead queue and a mode for the keyboard. -/
def typing (m : Mode) (codes : List Code) : State :=
  { ready with
    streams := { ready.streams with typeAhead := codes }
    settings := { ready.settings with kbMode := m } }

/-- A cell of the keyboard. -/
def cell (id : Nat) (code : Code) (start width : Nat) (state : CellState) : Cell :=
  { id := id, code := code, start := start, width := width, extra := 0, bold := false, underline := false,
    source := .keyboard, state := state, mark := .none, overstrike := false, fixed := false, notOnWheel := false,
    ticket := none, word := none, outstanding := 0 }

/-- A line with cells in a composition that a source holds. -/
def holding (src : Stream) (m : Mode) (cells : List Cell) (s : State) : State :=
  { s with
    streams := { s.streams with holder := some src }
    lines := { s.lines with current := { s.lines.current with cells := cells, composition := some m } } }

/-- A job that strikes. -/
def striking (kind : OrderKind) (id : Nat) (target wheel : Nat) : Job :=
  { kind := kind, target := target, petal := some 15, second := none, energy := some 2, wheel := some wheel, width := some 10,
    feed := none, source := .keyboard, role := some .main, cell := some id, link := none }

/-- Two letters of a line with a dictionary in a given state and a spell queue of given length. -/
def wording (d : DictState) (queue : Nat) (codes : List Code) : State :=
  let s := holding .keyboard .word (codes.mapIdx fun i c => cell i c (120 + 12 * i) 12 .held) running
  { s with spelling := { s.spelling with
      dictState := d, queue := (List.range queue).map fun n => ⟨byte (100 + n), false⟩, overflow := 255 } }

/-- A state with a queue of orders. -/
def withOrders (os : List Order) (s : State) : State := { s with dispatch := { s.dispatch with orders := os } }

/-! ## Commands that cannot arise are ill-formed -/

theorem test_wellFormed_accepts :
    Instr.wellFormed (.keys .keyboard (List.replicate 40 0x61)) = true ∧
    Instr.wellFormed (.unknownRequest .keyboard 0x3F []) = true ∧
    Instr.wellFormed (.countersRun .keyboard [1]) = true ∧
    Instr.wellFormed (.spellAnswerReject .keyboard [9, 2]) = true ∧
    Instr.wellFormed (.bodyTransferEnd (.data [3])) = true ∧ Instr.wellFormed (.headerTransferEnd .noAcknowledge) = true := by
  decide +kernel

theorem test_wellFormed_refuses_long_payload : Instr.wellFormed (.keys .keyboard (List.replicate 41 0x61)) = false ∧
    Instr.wellFormed (.unknownRequest .keyboard 0x3F (List.replicate 41 0)) = false := by decide +kernel

theorem test_wellFormed_refuses_known_code : Instr.wellFormed (.unknownRequest .keyboard 0x3E []) = false := by decide +kernel

theorem test_wellFormed_refuses_other_action :
    Instr.wellFormed (.loadWheelTableHeader .keyboard [1, 0]) = false ∧
    Instr.wellFormed (.loadWheelTableEntries .keyboard [2, 0]) = false ∧
    Instr.wellFormed (.loadWheelTableFinal .keyboard [0, 0]) = false ∧
    Instr.wellFormed (.spellAnswerAccept .keyboard [0, 1]) = false ∧
    Instr.wellFormed (.spellAnswerAdd .keyboard [0, 2]) = false ∧
    Instr.wellFormed (.spellAnswerReject .keyboard [0, 0]) = false ∧
    Instr.wellFormed (.countersFreeze .keyboard [1]) = false ∧ Instr.wellFormed (.countersRun .keyboard [2]) = false ∧
    Instr.wellFormed (.countersClear .keyboard [0]) = false := by decide +kernel

theorem test_wellFormed_refuses_reply_of_wrong_length :
    Instr.wellFormed (.headerTransferEnd (.data [0, 0, 0])) = false ∧
    Instr.wellFormed (.directoryTransferEnd (.data (List.replicate 7 0))) = false ∧
    Instr.wellFormed (.bodyTransferEnd (.data [])) = false ∧
    Instr.wellFormed (.bodyTransferEnd (.data (List.replicate 129 0))) = false := by decide +kernel

/-! ## Figures of spec/ -/

/-- The hash of "type" (worked case of 08_spelling.md: bucket 318 of 1024 in the lookup that follows it). -/
theorem test_hash_of_type : wordHash [116, 121, 112, 101] % 1024 = 318 := by decide

/-- The fold of an APOSTROPHE is 0x27, also for another code of that class (R147): 0x23 as an APOSTROPHE in "a#B". -/
theorem test_fold_of_apostrophe :
    (let s := { running with wheels := { running.wheels with classes := running.wheels.classes.set 0x23 ⟨.apostrophe, 0x23⟩ } }
     [(0x61 : Code), 0x23, 0x42, 0x27].map (foldCode s)) = [0x61, 0x27, 0x62, 0x27] := by decide +kernel

/-- Held cells placed from 1540 (R18, R29): the third would end at 1576 and stands at 1547, P at 1559. -/
theorem test_positions_are_brought_into_range :
    (let cells := [cell 0 0x61 0 12 .held, cell 1 0x61 0 7 .held, cell 2 0x61 0 12 .held]
     ((placeFrom 1540 cells).map (·.start), positionAfter 1540 cells, positionAfter 1528 cells)) =
    ([1540, 1552, 1547], 1559, 1559) := by decide +kernel

/-- Every request's code names it (R203). -/
theorem test_request_codes :
    ([ReqKind.keys, .text, .fetchOrder, .orderDone, .get, .softRestart].map fun k => ReqKind.ofCode k.code.toNat) =
      [some .keys, some .text, some .fetchOrder, some .orderDone, some .get, some .softRestart] := by decide +kernel

/-- Tab motion (worked case of 02_escapement_and_layout_arithmetic.md). -/
theorem test_tab_motion :
    [150, 400, 650, 900, 950].map (tabTarget [200, 400, 600, 1000] 900) = [200, 600, 900, 900, 950] := by decide

/-- The strikes of four cells (worked case of 02_escapement_and_layout_arithmetic.md). -/
theorem test_strikes_of_four_cells :
    (([({ cell 0 0x6E 360 10 .held with bold := true }), { cell 1 0x20 370 6 .held with underline := true },
       cell 2 0x5E 376 0 .held, { cell 3 0xE9 376 10 .held with bold := true, underline := true }].map
      fun c => (strikeJobs wheel7 .normal c).map fun j => (j.role, j.target, j.petal, j.second)) =
    [[(some .main, 365, some 15, none), (some .bold, 366, some 15, none)], [(some .underline, 373, some 60, none)],
     [(some .main, 376, some 50, none)],
     [(some .main, 381, some 41, none), (some .second, 381, some 88, none), (some .bold, 382, some 41, some 88),
      (some .underline, 381, some 60, none)]]) := by decide +kernel

/-- Justification of a carried line, L = 120, M = 900 (worked case of 02_escapement_and_layout_arithmetic.md): natural width
716 with 6 interior spaces gives 11, 11, 11, 11, 10, 10 extra steps. -/
theorem test_justification :
    (let word := cell 0 0x61 0 98 .held
     let space := cell 1 0x20 0 5 .held
     let line := [word, space, word, space, word, space, word, space, word, space, word, space, word]
     let out := layOut 120 900 1140 24 .justify (line ++ [space, cell 2 0x62 0 100 .held])
     ((out.printed.filter Cell.isSpace).map (·.extra), (out.printed.getLast?.map Cell.stop), out.carried.length, out.failed)) =
    ([11, 11, 11, 11, 10, 10], some 900, 1, none) := by decide +kernel

/-- Centring and flush right of a line of 300 and of 301 steps (worked case of 02_escapement_and_layout_arithmetic.md). -/
theorem test_centring :
    ([Layout.centre, .flush, .left, .justify].map fun l =>
      ((layOut 120 900 1140 24 l [cell 0 0x61 0 300 .held]).printed.head?.map (·.start))) =
      [some 360, some 600, some 120, some 120] ∧
    (layOut 120 900 1140 24 .centre [cell 0 0x61 0 301 .held]).printed.head?.map (·.start) = some 359 := by decide +kernel

/-- Partial acceptance with dropped codes (worked sequence of 03_character_streams_and_line_holding.md). -/
theorem test_partial_acceptance :
    leads (exec (.text .interface [82, 101, 0x07, 112, 111, 114, 116, 0x14, 105, 110, 103])
      { State.reset with streams := { State.reset.streams with interfaceQ := List.replicate 250 0x61, roomLow := true } })
      (fun t => statusOn t .interface = some .partial_ && payloadOn t .interface = [8, 2] &&
        t.streams.interfaceQ.length = 256 && t.streams.roomLow &&
        t.notices.interface.pending = [⟨.refusedCharacters, 1, [0, 2]⟩]) = true := by decide +kernel

/-- Columns with an overstrike and an accent (worked sequence of 09_the_line_display.md): three columns, shown "co^". -/
theorem test_columns :
    (columns [cell 0 0x63 120 12 .released, cell 1 0x61 132 12 .released, cell 2 0x74 144 12 .released,
      { cell 3 0x6F 132 12 .released with overstrike := true }, cell 4 0x5E 144 0 .released]).map Column.code =
    [0x63, 0x6F, 0x5E] := by decide +kernel

/-- A SPACE inserted into a captured word without a ticket leaves no captured word (R145). -/
theorem test_split_word_is_not_captured :
    (let c := fun (n : Nat) (code : Code) => { cell n code (120 + 12 * n) 12 .held with mark := .skipped, word := some 0 }
     (cancelBroken (holding .keyboard .line [c 0 0x41, cell 3 0x20 132 12 .held, c 1 0x42, c 2 0x43] running)).lines.current.cells.map
       fun (x : Cell) => x.word) = [none, none, none, none] := by decide +kernel

/-- Counters select completions by kind and source (example of 10_sense_lines_signals_and_service_functions.md): a STRIKE of
INTERFACE with cost 5 counts, one of KEYBOARD does not. -/
theorem test_counter_selects :
    (let c : Counter := ⟨0, false, .tokens, 1, 1, 2, 2⟩
     let s : State := { State.reset with service := { State.reset.service with counters := [c] } }
     let o : Order := ⟨1, true, 12, 5, { striking .strike 0 300 7 with source := .interface }⟩
     ((countCompletion o s).service.counters.map (·.value),
      (countCompletion { o with job := striking .strike 0 300 7 } s).service.counters.map (·.value))) = ([5], [0]) := by
  decide +kernel

/-- SPACE at P = 840 in the hot zone [828, 900) is composed as RETURN: target 120, feed 2 (worked sequence of
04_composition_and_the_line_store.md). -/
theorem test_auto_return :
    leads (exec (.composePrintable .keyboard)
      (let s := holding .keyboard .direct [cell 0 0x62 830 10 .released] (typing .direct [0x20])
       { s with composer := { s.composer with p := 840 } }))
      (fun t => t.composer.p = 120 && t.streams.typeAhead = [] && t.lines.outgoing.isSome &&
        (t.dispatch.orders.getLast?.map (·.job)) = some (Job.plain .ret 120 .keyboard (some 2))) = true := by decide +kernel

/-- Capacity lowered under load (worked sequence of 06_hammer_energy_budget.md): level 40 becomes 16, a cost of 14 stays. -/
theorem test_capacity_lowered :
    leads (exec (.setEnergy .keyboard [0, 1, 16])
      (withOrders [⟨9, false, 700, 14, striking .lift 0 300 7⟩] { running with energy := { running.energy with level := 40 } }))
      (fun t => t.energy.level = 16 && t.energy.capacity = 16 && t.dispatch.orders.map (·.cost) = [14]) = true := by
  decide +kernel

/-- FETCH ORDER while stepping without a credit is answered NONE, STEPPING; with a credit it takes the cost 6 from a level of
40 (worked sequence of 10_sense_lines_signals_and_service_functions.md). -/
theorem test_stepping :
    (let s := withOrders [⟨26, false, 0, 6, striking .lift 0 300 7⟩] { running with
        energy := { running.energy with level := 40 }, service := { running.service with stepping := true } }
     leads (exec (.fetchOrder .mechanism []) s)
       (fun t => statusOn t .mechanism = some .none_ && payloadOn t .mechanism = [10, 0xFF]) &&
     leads (exec (.fetchOrder .mechanism []) { s with service := { s.service with credit := true } })
       (fun t => t.energy.level = 34 && !t.service.credit && t.dispatch.orders.map (·.fetched) = [true])) = true := by
  decide +kernel

/-- The body of bucket 318 (worked case of 08_spelling.md): t x n d, t y p e, t z r f. "type" is KNOWN, "tyro" is not. -/
theorem test_body_of_bucket :
    (let body : List Byte := [4, 116, 120, 110, 100, 4, 116, 121, 112, 101, 4, 116, 122, 114, 102]
     (scanBody [116, 121, 112, 101] ⟨15, none⟩ body, scanBody [116, 121, 114, 111] ⟨15, none⟩ body)) =
    (.reached .known, .reached .unknown) := by decide +kernel

/-- The refill of 3 to a level of 4, then 7 (worked sequence of 06_hammer_energy_budget.md): the head of cost 5 becomes
offerable at 7, with ORDERS WAITING to the mechanism station. -/
theorem test_refill :
    (let s := withOrders [⟨9, false, 12, 5, striking .strike 0 300 7⟩] { running with energy := { running.energy with level := 1 } }
     leads (exec .refillExpiry s) (fun t => t.energy.level = 4 && !t.dispatch.offerable && t.notices.mechanism.pending = []) &&
     leads (exec .refillExpiry { s with energy := { s.energy with level := 4 } })
       (fun t => t.energy.level = 7 && t.dispatch.offerable && t.notices.mechanism.pending = [⟨.ordersWaiting, 1, [9]⟩])) =
    true := by decide +kernel

/-- WHEEL REPORT of an ID without a table (R11, R13, R14): WHEEL CHANGED with 7 and 12, NO WHEEL TABLE with 12. -/
theorem test_wheel_report :
    leads (exec (.wheelReport .mechanism [12]) running) (fun t => t.wheels.mounted = 12 &&
      t.notices.keyboard.pending = [⟨.wheelChanged, 1, [7, 12]⟩, ⟨.noWheelTable, 1, [12]⟩]) = true := by decide +kernel


/-! ## Witnesses: the part as a machine, station links, notices -/

/-- The part at work, or not, and a link on which a request waits. -/
def serving (atWork : Bool) (on : Option Station) (s : State) : State :=
  let u := { s with links := { s.links with occupied := atWork } }
  match on with
  | none => u
  | some st => onLink st (fun l => { l with receive := some ⟨ReqKind.get.code, [10]⟩, answer := .busy }) u

/-- A step takes the front command; on an empty queue the part rests: it takes the request that waits, the first link's first, or
turns to its work and back; nothing while RESET is held low. -/
theorem test_StepRunsTheFrontCommand_premises :
    leads (step { State.reset with pending := [.tab .keyboard, .answer .keyboard true] })
      (fun t => t.pending = [.answer .keyboard true]) = true ∧
    leads (step State.reset) (· = serving true none State.reset) = true ∧
    leads (step (serving true none State.reset)) (· = State.reset) = true ∧
    leads (step (serving true (some .mechanism) State.reset)) (fun t => statusOn t .mechanism = some .ok &&
      payloadOn t .mechanism = [20, 7, 208, 0] && (linkOf t .mechanism).receive = none && !t.links.occupied) = true ∧
    leads (step (serving true (some .keyboard) (serving true (some .interface) State.reset))) (fun t =>
      statusOn t .keyboard = some .ok && (linkOf t .interface).answer = .busy) = true ∧
    (let s := { serving true (some .keyboard) State.reset with resetHeld := true }
     leads (step s) (· = s) = true) := by decide +kernel

/-- Requests at work and at rest: BUSY until taken, PENDING to an ANSWER frame, an overrun meanwhile. -/
theorem test_WaitingRequests_premises :
    (let s := serving true none State.reset
     leads (exec (.keys .keyboard [0x61]) s) (fun t => (linkOf t .keyboard).answer = .busy &&
       (linkOf t .keyboard).receive = some ⟨ReqKind.keys.code, [0x61]⟩ && t.streams = s.streams) = true ∧
     leads (exec (.unknownRequest .interface 0xFE [7]) s) (fun t => (linkOf t .interface).answer = .busy &&
       (linkOf t .interface).receive = some ⟨0xFE, [7]⟩) = true) ∧
    (let s := serving true (some .keyboard) State.reset
     leads (exec (.answer .keyboard true) s) (fun t => (linkOf t .keyboard).sdo = [10, 0]) = true ∧
     leads (exec (.keys .keyboard [0x61]) s) (fun t => (linkOf t .keyboard).overruns = 1 && (linkOf t .keyboard).answer = .busy &&
       (linkOf t .keyboard).receive = some ⟨ReqKind.get.code, [10]⟩) = true) := by decide +kernel

theorem test_ResetHoldsThePart_premises :
    (let s := { State.reset with resetHeld := true }
     s.resetHeld = true ∧ Instr.refillExpiry ≠ .powerOn ∧ Instr.refillExpiry ≠ .resetRelease ∧
       leads (exec .refillExpiry s) (· = s) = true ∧ attention s .keyboard = false) ∧
    leads (exec .resetAssert State.reset) (fun t => t.resetHeld && t.display.phase = .idle) = true := by decide +kernel

/-- Outputs while RESET is high: a lamp for each of its functions, and ATN of a station with a notice (R182, R199). -/
theorem test_LampsAndAttention_premises :
    (let lamps := fun (f : LampFunction) (s : State) =>
       lampOutputs { s with signals := { s.signals with lamps := [⟨f, true⟩, ⟨.manual, false⟩] } }
     running.resetHeld = false ∧ lamps .manual running = [true, false] ∧ lamps .interfaceHold running = [false, false] ∧
     lamps .interfaceHold (holding .interface .direct [] running) = [true, false] ∧
     lamps .halted { running with dispatch := { running.dispatch with state := .halted } } = [true, false] ∧
     lamps .spellPending (holding .keyboard .word [cell 0 0x61 120 12 .spellHold] running) = [true, false] ∧
     lamps .spellPending (holding .keyboard .line [{ cell 0 0x61 120 12 .held with mark := .checking }] (typing .line [0x0D])) =
       [true, false] ∧
     lamps .spellPending (holding .keyboard .line [{ cell 0 0x61 120 12 .held with mark := .checking }] running) = [false, false] ∧
     lamps .supplyLow { running with service := { running.service with tape := 0 } } = [true, false] ∧
     lamps .supplyLow State.reset = [true, false] ∧ lamps .supplyLow running = [false, false] ∧
     attention (raiseTo .keyboard .linkError [0] running) .keyboard = true ∧ attention running .keyboard = false) := by
  decide +kernel

/-- The class table of R3 at the ends of its ranges. -/
theorem test_PowerOnValues_premises :
    leads (exec .powerOn { ready with resetHeld := true }) (fun t => t = State.reset) = true ∧
    leads (exec .resetRelease { ready with resetHeld := true }) (fun t => t = State.reset) = true ∧
    leads (exec .resetRelease ready) (· = ready) = true ∧
    ([0x1F, 0x20, 0x21, 0x27, 0x2D, 0x2F, 0x30, 0x39, 0x3A, 0x40, 0x41, 0x5A, 0x5B, 0x60, 0x61, 0x7A, 0x7B, 0xBF, 0xC0,
       0xFF].map (fun n => classOf State.reset (byte n))) =
      [.control, .space, .punct, .apostrophe, .hyphen, .punct, .digit, .digit, .punct, .punct, .letter, .letter, .punct, .punct,
       .letter, .letter, .punct, .punct, .letter, .letter] ∧ (classEntry State.reset 0x5A).fold = 0x7A := by decide +kernel

/-- The class table after the rise of RESET, a changed entry before it (R3, R202). -/
theorem test_ClassesAfterReset_premises :
    (let s := { ready with resetHeld := true, wheels := { ready.wheels with
       classes := ready.wheels.classes.set 0x61 ⟨.punct, 0x61⟩ } }
     classOf s 0x61 = .punct ∧ leads (exec .resetRelease s) (fun t => classEntry t 0x61 = ⟨.letter, 0x61⟩) = true ∧
     leads (exec (.softRestart .keyboard []) { s with resetHeld := false }) (fun t => classOf t 0x61 = .punct) = true) := by
  decide +kernel

theorem test_SoftRestartEffects_premises :
    Ready .softRestart .keyboard [] ready ∧ Ready .softRestart .keyboard [0] ready ∧
    answers (exec (.softRestart .keyboard [0]) ready) .keyboard .badRequest = true ∧
    leads (exec (.softRestart .keyboard []) running) (fun t => statusOn t .keyboard = some .ok && t.dispatch.offerable &&
      t.dispatch.orders.map (·.serial) = [1] && t.notices.mechanism.pending = [⟨.ordersWaiting, 1, [1]⟩]) = true := by
  decide +kernel

theorem test_FramesThatAreNoRequest_premises :
    requestOf (.keys .keyboard []) = some (.keys, .keyboard, []) ∧
    (let s := { State.reset with links := { State.reset.links with
       keyboard := { State.reset.links.keyboard with answer := .busy, overruns := 255 } } }
     (linkOf s .keyboard).answer ≠ .empty ∧ leads (exec (.keys .keyboard []) s) (fun t => (linkOf t .keyboard).overruns = 255 &&
       t.notices.keyboard.pending = [⟨.linkError, 1, [2]⟩]) = true) ∧
    (linkOf State.reset .keyboard).answer = .empty ∧
    leads (exec (.frameBadLength .keyboard) State.reset) (fun t => t.notices.keyboard.pending = [⟨.linkError, 1, [1]⟩]) = true ∧
    leads (exec (.shortFrame .keyboard false) State.reset) (fun t => t.notices.keyboard.pending = []) = true ∧
    answers (exec (.unknownRequest .interface 0xFE []) State.reset) .interface .badRequest = true := by decide +kernel

/-- Frames byte by byte: RESET held, an answer waiting, lengths 40 and 41, a payload cut short, bytes after it, codes with a
request and without (R193, R194, R202, R203). -/
theorem test_FramesByByte_premises :
    (let busy := { running with links := { running.links with keyboard := { running.links.keyboard with answer := .held ⟨.ok, []⟩ } } }
     acknowledges { running with resetHeld := true } .keyboard [0x01, 0] = [true, true] ∧
     acknowledges running .keyboard [0xFF, 0, 0] = [false] ∧ (linkOf busy .keyboard).answer ≠ .empty ∧
     acknowledges busy .keyboard [0x01, 1, 0x61] = [true, true, true] ∧ frameRow busy .keyboard [0x01, 0] = .overrun .keyboard ∧
     (linkOf running .keyboard).answer = .empty ∧ frameRow running .keyboard [] = .shortFrame .keyboard false ∧
     frameRow running .keyboard [0x01] = .shortFrame .keyboard true ∧
     acknowledges running .keyboard [0x01, 41, 0, 0] = [false, true, true, true] ∧
     frameRow running .keyboard [0x01, 41, 0, 0] = .frameBadLength .keyboard ∧
     acknowledges running .keyboard [0x01, 40, 0, 0] = [false, false, false, false] ∧
     frameRow running .keyboard [0x01, 40, 0, 0] = .shortFrame .keyboard true ∧
     acknowledges running .keyboard [ReqKind.keys.code, 1, 0x61, 0x62] = [false, false, false, true] ∧
     requestOf (frameRow running .keyboard [ReqKind.keys.code, 1, 0x61, 0x62]) = some (.keys, .keyboard, [0x61]) ∧
     requestOf (frameRow running .keyboard (ReqKind.keys.code :: 40 :: List.replicate 40 0x61)) =
       some (.keys, .keyboard, List.replicate 40 0x61) ∧
     frameRow running .keyboard [0x3F, 1, 7] = .unknownRequest .keyboard 0x3F [7]) := by decide +kernel

/-- A request frame bit by bit: the levels of SDI with a byte cut short behind them, SDO driven at the ninth pulses alone; an
ANSWER frame, its bytes on SDO; RESET held (R192, R202). -/
theorem test_FramesByBit_premises :
    (let pulses := fun (bytes : List Byte) => (bytes.map fun b => byteBits b ++ [true]).flatten
     let sdi := pulses [ReqKind.keys.code, 1, 0x61] ++ [true, false, true]
     byteBits 0x61 = [false, true, true, false, false, false, false, true] ∧
     clockedBytes sdi = [ReqKind.keys.code, 1, 0x61] ∧ sdi.length = 30 ∧
     requestOf (frameOfLevels running .keyboard sdi) = some (.keys, .keyboard, [0x61]) ∧
     sdoInFrame running .keyboard sdi =
       (List.replicate 3 (List.replicate 8 none ++ [some false])).flatten ++ List.replicate 3 none ∧
     sdoInFrame { running with resetHeld := true } .keyboard sdi = List.replicate 30 none ∧
     sdoInFrame { running with links := { running.links with keyboard := { running.links.keyboard with
         answer := .held ⟨.ok, [0x81]⟩ } } } .keyboard (pulses [0xFF, 0, 0, 0, 0]) =
       List.replicate 8 none ++ [some false] ++
         ([0, 1, 0x81].map fun b => (byteBits b).map some ++ [none]).flatten ++ List.replicate 9 none) := by decide +kernel

theorem test_RequestsAreAnsweredOnTheirLink_premises :
    requestOf (.fetchOrder .keyboard []) = some (.fetchOrder, .keyboard, []) ∧
    answers (exec (.fetchOrder .keyboard []) State.reset) .keyboard .notPermitted = true ∧
    answers (exec (.softRestart .interface []) State.reset) .interface .notPermitted = true ∧
    answers (exec (.keys .mechanism []) State.reset) .mechanism .notPermitted = true ∧
    answers (exec (.takeNotice .mechanism []) State.reset) .mechanism .none_ = true := by decide +kernel

/-- A payload not of its request's form, with a value out of range in it too: BAD REQUEST (R197; notes/assumptions/46.md). -/
theorem test_MalformedPayloads_premises :
    [(ReqKind.supplyNew, ([9, 0] : List Byte)), (.showMessage, 5 :: List.replicate 33 0x1F), (.setStreams, [0, 2, 9, 9]),
      (.setClasses, [0, 0, 1]), (.get, [0]), (.loadWheelTable, [0, 9]), (.resume, [1]), (.orderDone, [1])].all (fun x =>
        malformed x.1 x.2) = true ∧
    Ready .supplyNew .keyboard [9, 0] running ∧
    answers (exec (rowOfCode .keyboard ReqKind.supplyNew.code [9, 0]) running) .keyboard .badRequest = true ∧
    malformed .get [17, 0, 0] = false ∧ malformed .loadWheelTable [3] = false ∧
    malformed .setClasses [0x21, 1, 2, 0x61] = false := by decide +kernel

/-- A form of LOAD WHEEL TABLE, a choice of SPELL ANSWER and an action of COUNTERS that the spec does not name (R203). -/
theorem test_UnknownForms_premises :
    Ready .loadWheelTable .keyboard [3] running ∧ Ready .spellAnswer .keyboard [40, 3] running ∧
    Ready .counters .keyboard [3] running ∧
    [rowOfCode .keyboard ReqKind.loadWheelTable.code [3], rowOfCode .keyboard ReqKind.spellAnswer.code [40, 3],
      rowOfCode .keyboard ReqKind.counters.code [3]].all (fun c => answers (exec c running) .keyboard .badValue) = true := by
  decide +kernel

theorem test_AnswerFrame_premises :
    (let with_ := fun b : AnswerBuffer => { State.reset with links := { State.reset.links with
       keyboard := { State.reset.links.keyboard with answer := b } } }
     leads (exec (.answer .keyboard true) (with_ (.held ⟨.ok, [7]⟩)))
       (fun t => (linkOf t .keyboard).answer = .empty && (linkOf t .keyboard).sdo = [0, 1, 7]) = true ∧
     leads (exec (.answer .keyboard false) (with_ (.held ⟨.ok, [7]⟩)))
       (fun t => (linkOf t .keyboard).answer = .held ⟨.ok, [7]⟩) = true ∧
     leads (exec (.answer .keyboard true) (with_ .busy)) (fun t => (linkOf t .keyboard).sdo = [10, 0]) = true ∧
     leads (exec (.answer .keyboard true) (with_ .empty)) (fun t => (linkOf t .keyboard).sdo = [11, 0]) = true ∧
     sentInFrame (with_ (.held ⟨.ok, [7]⟩)) .keyboard [0xFF, 0, 0, 0, 0] = [0, 1, 7] ∧
     sentInFrame (with_ (.held ⟨.ok, [7]⟩)) .keyboard [0xFF, 0, 0] = [0, 1] ∧
     sentInFrame (with_ (.held ⟨.ok, [7]⟩)) .keyboard [0x01, 0] = [] ∧
     frameRow (with_ (.held ⟨.ok, [7]⟩)) .keyboard [0xFF, 0, 0] = .answer .keyboard false ∧
     frameRow (with_ (.held ⟨.ok, [7]⟩)) .keyboard [0xFF, 0, 0, 0] = .answer .keyboard true) := by
  decide +kernel

theorem test_RaiseFollowsTheRoute_premises :
    (routeOf State.reset .wheelChanged).keyboard = true ∧ ¬ (routeOf State.reset .wheelChanged).mechanism = true ∧
    BoardOk (boardOf State.reset .keyboard) ∧
    (raiseTo .keyboard .linkError [1] { State.reset with notices := { State.reset.notices with
      keyboard := ⟨[⟨.wheelChanged, 1, []⟩, ⟨.linkError, 15, [0]⟩], none⟩ } }).notices.keyboard.pending =
      [⟨.wheelChanged, 1, []⟩, ⟨.linkError, 15, [1]⟩] := by decide +kernel

/-- Equal bids: the lower kind number is taken first (R200). -/
theorem test_TakingAndReadingNotices_premises :
    (let s := { State.reset with notices := { State.reset.notices with
       keyboard := ⟨[⟨.wheelChanged, 1, [7]⟩, ⟨.holdLapsed, 1, [0]⟩], some ⟨.linkError, 2, [1]⟩⟩ } }
     Ready .takeNotice .keyboard [] s ∧ (boardOf s .keyboard).pending ≠ [] ∧
     leads (exec (.takeNotice .keyboard []) s) (fun t => payloadOn t .keyboard = [1, 1, 1, 7]) = true ∧
     Ready .readNotice .keyboard [] s ∧
     leads (exec (.readNotice .keyboard []) s) (fun t => payloadOn t .keyboard = [15, 2, 1, 1]) = true) ∧
    Ready .takeNotice .mechanism [] State.reset ∧ (boardOf State.reset .mechanism).pending = [] ∧
    answers (exec (.readNotice .keyboard []) State.reset) .keyboard .none_ = true ∧
    Ready .readNotice .keyboard [0] State.reset ∧ Ready .takeNotice .keyboard [0] State.reset := by decide +kernel

/-- Kinds 17 and 18, a direct kind with a route, and priorities at and above 15. -/
theorem test_SetNoticeRoute_premises :
    State.reset.notices.routes.length = 17 ∧ Ready .setNoticeRoute .keyboard [17, 0, 3, 7, 15, 16, 1] State.reset ∧
    settingFields [1, 3] [0, 3, 7, 15, 16, 1] = some [some 7, some (num [15, 16, 1])] ∧
    leads (exec (.setNoticeRoute .keyboard [17, 0, 3, 7, 15, 16, 1]) State.reset) (fun t =>
      statusOn t .keyboard = some .clamped && t.notices.routes.getLast? = some ⟨true, true, true, 15, 15, 1⟩) = true ∧
    settingFields [1, 3] [0, 4] = none ∧
    answers (exec (.setNoticeRoute .keyboard [1, 0, 4]) State.reset) .keyboard .badRequest = true ∧
    answers (exec (.setNoticeRoute .keyboard [18, 0, 0]) State.reset) .keyboard .badValue = true ∧
    Ready .setNoticeRoute .keyboard [] State.reset ∧
    answers (exec (.setNoticeRoute .keyboard []) State.reset) .keyboard .badRequest = true ∧
    answers (exec (.setNoticeRoute .keyboard [18]) State.reset) .keyboard .badRequest = true ∧
    answers (exec (.setNoticeRoute .keyboard [15, 0, 1, 7]) State.reset) .keyboard .badValue = true ∧
    answers (exec (.setNoticeRoute .keyboard [15, 0, 2, 1, 2, 3]) State.reset) .keyboard .ok = true := by decide +kernel

/-! ## Witnesses: streams and the line holder -/

theorem test_KeysAndTextIntake_premises :
    Ready .keys .keyboard [0x61, 0x07] State.reset ∧ Ready .text .interface [0x61] State.reset ∧
    leads (exec (.keys .keyboard [0x61, 0x62]) { State.reset with streams := { State.reset.streams with
      typeAhead := List.replicate 63 0x61 } }) (fun t => statusOn t .keyboard = some .partial_ &&
        payloadOn t .keyboard = [1, 0] && t.streams.typeAhead.length = 64) = true ∧
    leads (exec (.keys .keyboard [0x61]) { State.reset with streams := { State.reset.streams with
      typeAhead := List.replicate 64 0x61 } }) (fun t => statusOn t .keyboard = some .full) = true := by decide +kernel

theorem test_HoldLinesTable_premises :
    (let with_ := fun (h : Option Stream) (p : PageHold) (t : Bool) =>
       { State.reset with streams := { State.reset.streams with holder := h, pageHold := p, takeover := t } }
     Ready .holdLines .interface [] (with_ (some .interface) .off true) ∧
     answers (exec (.holdLines .interface []) (with_ (some .interface) .off true)) .interface .notNow = true ∧
     leads (exec (.holdLines .interface []) (with_ (some .interface) .off false)) (fun t => t.streams.pageHold = .on) = true ∧
     leads (exec (.holdLines .interface []) (with_ none .off false)) (fun t => t.streams.holder = some .interface &&
       t.streams.lapseTimer = some 10) = true ∧
     leads (exec (.holdLines .interface []) (with_ (some .keyboard) .off false)) (fun t => t.streams.pageHold = .waiting) = true ∧
     answers (exec (.holdLines .interface []) (with_ (some .keyboard) .waiting false)) .interface .ok = true) ∧
    answers (exec (.holdLines .interface [0]) State.reset) .interface .badRequest = true := by decide +kernel

theorem test_PageHoldEnds_premises :
    (let with_ := fun (h : Option Stream) (p : PageHold) (timer : Option Nat) (cells : List Cell) =>
       { State.reset with
         streams := { State.reset.streams with holder := h, pageHold := p, lapseTimer := timer }
         lines := { State.reset.lines with current := { State.reset.lines.current with cells := cells } } }
     let c := cell 0 0x61 120 12 .released
     Ready .releaseLines .interface [] (with_ none .off none []) ∧
     leads (exec (.releaseLines .interface []) (with_ (some .keyboard) .waiting none [])) (·.streams.pageHold = .off) = true ∧
     leads (exec (.releaseLines .interface []) (with_ (some .interface) .on (some 10) [c]))
       (·.streams.holder = some .interface) = true ∧
     leads (exec (.releaseLines .interface []) (with_ (some .interface) .on (some 10) [])) (·.streams.holder = none) = true ∧
     Ready .takeLine .keyboard [] (with_ none .off none []) ∧
     answers (exec (.takeLine .keyboard []) (with_ none .off none [])) .keyboard .notNow = true ∧
     leads (exec (.takeLine .keyboard []) (with_ (some .interface) .on (some 10) [c])) (·.streams.takeover) = true ∧
     leads (exec (.takeLine .keyboard []) (with_ (some .interface) .on (some 10) []))
       (·.streams.holder = some .keyboard) = true ∧
     leads (exec .holdLapseExpiry (with_ (some .interface) .on (some 10) [c])) (·.streams.lapsePending) = true ∧
     leads (exec .holdLapseExpiry (with_ (some .interface) .on (some 10) []))
       (fun t => t.streams.holder = none && t.notices.keyboard.pending = [⟨.holdLapsed, 1, [0]⟩]) = true ∧
     leads (exec .holdLapseExpiry (with_ none .off none [])) (· = State.reset) = true) := by decide +kernel

/-- Holder, page hold, composition and notices of the keyboard station after the end of the hold of an empty line. -/
def afterHold (src : Stream) (page : PageHold) (takeover lapse : Bool) : Option Stream × PageHold × Option Mode × Nat :=
  let t := holdEnd { holding src .direct [] running with streams := { running.streams with
    holder := some src, pageHold := page, takeover := takeover, lapsePending := lapse } }
  (t.streams.holder, t.streams.pageHold, t.lines.current.composition, t.notices.keyboard.pending.length)

/-- The rows of the hold-end table (R46). -/
theorem test_HoldEnd_premises :
    [afterHold .keyboard .waiting false false, afterHold .keyboard .off false false, afterHold .interface .off true false,
      afterHold .interface .on false false, afterHold .interface .on false true, afterHold .interface .off false false] =
    [(some .interface, .on, some .direct, 0), (none, .off, none, 0), (some .keyboard, .off, some .direct, 0),
      (some .interface, .on, some .direct, 0), (none, .off, none, 1), (none, .off, none, 0)] := by decide +kernel

theorem test_HoldEnd_of_a_line_with_cells :
    (holdEnd (holding .keyboard .direct [cell 0 0x61 120 12 .printed] { running with streams := { running.streams with
      pageHold := .waiting } })).lines.current.composition = some .direct := by decide +kernel

/-- Counts 0, 1, 32 and 33. -/
theorem test_ReadDiverted_premises :
    (let s := { State.reset with streams := { State.reset.streams with divertQ := [1, 2] } }
     Ready .readDiverted .interface [32] s ∧
     leads (exec (.readDiverted .interface [32]) s)
       (fun t => payloadOn t .interface = [1, 2] && t.streams.divertQ = []) = true ∧
     leads (exec (.readDiverted .interface [1]) s) (fun t => payloadOn t .interface = [1] && t.streams.divertQ = [2]) = true ∧
     answers (exec (.readDiverted .interface [0]) s) .interface .badValue = true ∧
     answers (exec (.readDiverted .interface [33]) s) .interface .badValue = true) ∧
    answers (exec (.readDiverted .interface [1]) State.reset) .interface .none_ = true := by decide +kernel

/-- The KEYBOARD policy DIVERT, the INTERFACE policy DIVERT refused, lapse times 60 and 61, thresholds. -/
theorem test_SetStreams_premises :
    Ready .setStreams .keyboard [0, 4, 0, 61] State.reset ∧
    settingFields [1, 1, 2, 1] [0, 4, 0, 61] = some [none, none, some 61, none] ∧
    leads (exec (.setStreams .keyboard [0, 4, 0, 61]) State.reset)
      (fun t => statusOn t .keyboard = some .clamped && t.streams.lapseTime = 60) = true ∧
    answers (exec (.setStreams .keyboard [0, 4, 0, 60]) State.reset) .keyboard .ok = true ∧
    settingFields [1, 1, 2, 1] [0, 16] = none ∧
    answers (exec (.setStreams .keyboard [0, 16]) State.reset) .keyboard .badRequest = true ∧
    answers (exec (.setStreams .keyboard [0, 1, 2]) State.reset) .keyboard .ok = true ∧
    answers (exec (.setStreams .keyboard [0, 2, 2]) State.reset) .keyboard .badValue = true ∧
    answers (exec (.setStreams .keyboard [0, 8, 33]) State.reset) .keyboard .badValue = true ∧
    leads (exec (.setStreams .keyboard [0, 8, 192]) { State.reset with streams := { State.reset.streams with
      interfaceQ := List.replicate 65 0x61 } }) (·.streams.roomLow) = true := by decide +kernel

theorem test_NonHolderPolicies_premises :
    (let s := { State.reset with streams := { State.reset.streams with
       typeAhead := [0x61], interfaceQ := List.replicate 193 0x62, roomLow := true, kbPolicy := .refuse, ifPolicy := .refuse } }
     let held := fun (h : Stream) => { s with streams := { s.streams with holder := some h } }
     let divert := fun q : List Code => { held .interface with streams := { (held .interface).streams with
       kbPolicy := .divert, divertQ := q } }
     leads (exec (.notHolderDrop .keyboard) (held .interface)) (fun t => t.streams.typeAhead = [] &&
       t.notices.keyboard.pending = [⟨.refusedCharacters, 1, [1, 1]⟩]) = true ∧
     leads (exec (.notHolderDrop .interface) (held .keyboard)) (fun t => !t.streams.roomLow &&
       t.notices.interface.pending = [⟨.refusedCharacters, 1, [1, 1]⟩, ⟨.streamRoom, 1, [4]⟩]) = true ∧
     leads (exec (.notHolderDrop .keyboard) s) (· = s) = true ∧
     leads (exec .divertKey (divert (List.replicate 15 0x63))) (fun t => t.streams.divertQ.length = 16 &&
       t.notices.interface.pending = [⟨.divertedKeys, 1, [16]⟩]) = true ∧
     leads (exec .divertKey (divert (List.replicate 16 0x63))) (fun t => t.streams.typeAhead = [] &&
       t.notices.keyboard.pending = [⟨.refusedCharacters, 1, [2, 1]⟩]) = true ∧
     leads (exec .divertKey s) (· = s) = true) := by decide +kernel

theorem test_TakingAHead_premises :
    Admits .keyboard 0x61 (typing .line [0x61]) ∧ (typing .line [0x61]).streams.holder = none ∧
    Admits .keyboard 0x61 (holding .keyboard .line [cell 0 0x61 120 12 .held] (typing .line [0x61])) ∧
    (takeHead .keyboard (typing .line [0x61])).streams.holder = some .keyboard ∧
    (takeHead .keyboard (typing .line [0x61])).lines.current.composition = some .line := by decide +kernel

/-- Heads that are not taken: no code, another code, the other source's line, a line of nobody with cells. -/
theorem test_TakingAHead_stays_premises :
    (let s := holding .interface .direct [cell 0 0x61 120 12 .printed] running
     let keyed := fun (c : Code) (h : Option Stream) => { s with streams := { s.streams with typeAhead := [c], holder := h } }
     (streamRow (.tab .keyboard)).map (·.1) = some .keyboard ∧ streamRow .homeAppend = none ∧
     leads (exec (.tab .keyboard) s) (· = s) = true ∧
     leads (exec (.tab .keyboard) (keyed 0x08 (some .keyboard))) (· = keyed 0x08 (some .keyboard)) = true ∧
     leads (exec (.tab .keyboard) (keyed 0x09 (some .interface))) (· = keyed 0x09 (some .interface)) = true ∧
     leads (exec (.tab .keyboard) (keyed 0x09 none)) (· = keyed 0x09 none) = true ∧
     leads (exec (.composePrintable .keyboard) (keyed 0x61 (some .interface))) (· = keyed 0x61 (some .interface)) = true ∧
     leads (exec (.tab .keyboard) (keyed 0x09 (some .keyboard))) (fun t => t.streams.typeAhead = []) = true) := by
  decide +kernel

/-- Admitted heads while an order waits for a place or a line is being released: BOLD ON waits, TAB closes the open group of a
WORD line unless the spell queue is full, RETURN captures the word of a LINE line. -/
theorem test_TakingAHead_waiting_premises :
    (let waiting := fun s : State => { s with correction := { s.correction with held := [Job.plain .move 3 .keyboard none] } }
     let releasing := fun s : State => { s with composer := { s.composer with release := some ⟨0, .keyboard⟩ } }
     let opened := fun (c : Code) (queue : Nat) =>
       let s := wording .available queue [0x61, 0x62]
       { s with
         streams := { s.streams with typeAhead := [c] }
         spelling := { s.spelling with openWord := [0, 1] }
         composer := { s.composer with openGroup := [0, 1] } }
     let line := holding .keyboard .line [cell 0 0x61 120 12 .held, cell 1 0x62 132 12 .held] (typing .line [0x0D])
     leads (exec (.boldOn .keyboard) (waiting (opened 0x10 0))) (· = waiting (opened 0x10 0)) = true ∧
     leads (exec (.boldOn .keyboard) (releasing (opened 0x10 0))) (· = releasing (opened 0x10 0)) = true ∧
     endWord .word (waiting (opened 0x09 0)) ≠ none ∧ endWord .word (waiting (opened 0x09 8)) = none ∧
     leads (exec (.tab .keyboard) (waiting (opened 0x09 0))) (fun t => t.composer.closedGroups = [[0, 1]] &&
       t.composer.openGroup = [] && t.streams.typeAhead = [0x09]) = true ∧
     leads (exec (.tab .keyboard) (waiting (opened 0x09 8))) (· = waiting (opened 0x09 8)) = true ∧
     leads (exec (.carriageReturn .keyboard) (releasing line)) (fun t => t.streams.typeAhead = [0x0D] &&
       t.lines.current.cells.map (·.mark) = [.checking, .checking] && t.lines.outgoing = none) = true) := by decide +kernel

/-! ## Witnesses: settings, tab stops, class table, wheel tables -/

theorem test_SettingsReadBack_premises :
    SettingsOk State.reset.settings ∧ StreamsOk State.reset.streams ∧ EnergyOk State.reset.energy ∧
    8 ≤ State.reset.spelling.device ∧ State.reset.spelling.skipRules[3]? = some ⟨false, 1, 24, .any, false⟩ ∧
    settingPayload [1, 2] [none, some 0x123] = [0, 2, 1, 0x23] ∧ settingFields [1, 2] [0, 2, 1, 0x23] = some [none, some 0x123] := by
  decide +kernel

/-- Margins 120 apart and 119 apart, a line spacing of 7, a mode for a line that its source holds empty. -/
theorem test_SetComposition_premises :
    Ready .setComposition .keyboard [0, 0x60, 3, 0xC, 4, 0x84] State.reset ∧
    settingFields [1, 1, 1, 1, 1, 2, 2, 1, 1, 1] [0, 0x60, 3, 0xC, 4, 0x84] =
      some [none, none, none, none, none, some 780, some 1156, none, none, none] ∧
    settingFields [1, 1, 1, 1, 1, 2, 2, 1, 1, 1] [8, 0] = none ∧
    answers (exec (.setComposition .keyboard [8, 0]) State.reset) .keyboard .badRequest = true ∧
    leads (exec (.setComposition .keyboard [0, 0x20, 3, 0xC]) State.reset)
      (fun t => statusOn t .keyboard = some .ok && t.settings.left = 780) = true ∧
    answers (exec (.setComposition .keyboard [0, 0x20, 3, 0xD]) State.reset) .keyboard .badValue = true ∧
    leads (exec (.setComposition .keyboard [0, 8, 7]) State.reset)
      (fun t => statusOn t .keyboard = some .clamped && t.settings.lineSpacing = 6) = true ∧
    leads (exec (.setComposition .keyboard [0, 1, 2]) (holding .keyboard .direct [] State.reset))
      (fun t => t.lines.current.composition = some .line) = true := by decide +kernel

/-- Positions 1559 and 1560, a stop held, a full list. -/
theorem test_TabStops_premises :
    (let s := { State.reset with settings := { State.reset.settings with tabs := [200, 400] } }
     Ready .setTab .keyboard [1, 0x2C] s ∧ s.settings.tabs.Pairwise (· < ·) ∧
     leads (exec (.setTab .keyboard [1, 0x2C]) s) (·.settings.tabs = [200, 300, 400]) = true ∧
     leads (exec (.setTab .keyboard [6, 0x18]) s)
       (fun t => statusOn t .keyboard = some .clamped && t.settings.tabs = [200, 400, 1559]) = true ∧
     leads (exec (.setTab .keyboard [0, 200]) s) (fun t => statusOn t .keyboard = some .ok && t.settings = s.settings) = true ∧
     Ready .clearTab .keyboard [0, 200] s ∧ leads (exec (.clearTab .keyboard [0, 200]) s) (·.settings.tabs = [400]) = true ∧
     Ready .clearTabs .keyboard [] s ∧ leads (exec (.clearTabs .keyboard []) s) (·.settings.tabs = []) = true ∧
     answers (exec (.clearTabs .keyboard [0]) s) .keyboard .badRequest = true ∧
     answers (exec (.setTab .keyboard [0]) s) .keyboard .badRequest = true ∧
     answers (exec (.clearTab .keyboard [0, 200, 0]) s) .keyboard .badRequest = true) ∧
    answers (exec (.setTab .keyboard [0, 99]) { State.reset with settings := { State.reset.settings with
      tabs := (List.range 16).map (· + 100) } }) .keyboard .full = true := by decide +kernel

theorem test_SetClasses_premises :
    Ready .setClasses .keyboard [0xFF, 1, 2, 0x20] State.reset ∧ State.reset.wheels.classes.length = 256 ∧
    leads (exec (.setClasses .keyboard [0xFF, 1, 2, 0x20]) State.reset)
      (fun t => classEntry t 0xFF = ⟨.letter, 0x20⟩ && classEntry t 0xFE = ⟨.letter, 0xFE⟩) = true ∧
    answers (exec (.setClasses .keyboard [0xFF, 2, 2, 0x20, 2, 0x20]) State.reset) .keyboard .badValue = true ∧
    answers (exec (.setClasses .keyboard [0x20, 1, 6, 0]) State.reset) .keyboard .badValue = true ∧
    answers (exec (.setClasses .keyboard [0x21, 1, 6]) State.reset) .keyboard .badRequest = true ∧
    answers (exec (.setClasses .keyboard [0x21]) State.reset) .keyboard .badRequest = true := by decide +kernel

theorem test_HeaderAndErase_premises :
    Ready .loadWheelTable .keyboard [0, 3, 62, 3, 95, 6] running ∧ Ready .eraseWheelTable .keyboard [0] running ∧
    mountedTable running ≠ none ∧
    leads (exec (.loadWheelTableHeader .keyboard [0, 3, 62, 3, 95, 6]) running) (fun t => (t.wheels.slots.map Slot.number) =
      [2, 0, 0, 1] && t.notices.keyboard.pending = []) = true ∧
    answers (exec (.loadWheelTableHeader .keyboard [0, 3, 63, 3, 95, 6]) running) .keyboard .badValue = true ∧
    leads (exec (.loadWheelTableHeader .keyboard [0, 0, 62, 3, 95, 6]) running)
      (·.notices.keyboard.pending = [⟨.noWheelTable, 1, [7]⟩]) = true ∧
    leads (exec (.eraseWheelTable .keyboard [0]) running) (·.notices.keyboard.pending = [⟨.noWheelTable, 1, [7]⟩]) = true ∧
    answers (exec (.eraseWheelTable .keyboard [4]) running) .keyboard .badValue = true := by decide +kernel

/-- A run that ends at code 0xFF and one that passes it, a COMPOSITE entry, a FINAL with the right count and a wrong one. -/
theorem test_EntriesAndFinal_premises :
    (let s := { running with wheels := { running.wheels with slots :=
       [.loaded wheel7.header wheel7.entries, .loading { wheel7.header with native := .p12 }
         (List.replicate 224 ⟨none, 3, 2, .spacing, none⟩) (List.replicate 224 false), .empty, .empty] } }
     Ready .loadWheelTable .keyboard [1, 1, 0xFF, 1, 41, 0xAA, 88] s ∧
     leads (exec (.loadWheelTableEntries .keyboard [1, 1, 0xFF, 1, 41, 0xAA, 88]) s) (fun t => match t.wheels.slots[1]? with
       | some (Slot.loading _ es ws) => es.getLast? = some ⟨some 41, 5, 2, .composite, some 88⟩ && ws.count true = 1
       | _ => false) = true ∧
     answers (exec (.loadWheelTableEntries .keyboard [1, 1, 0xFF, 2, 41, 0xAA, 88, 41, 0xAA, 88]) s) .keyboard .badValue = true ∧
     answers (exec (.loadWheelTableEntries .keyboard [1, 1, 0xFF, 2, 41, 0xAA, 88]) s) .keyboard .badRequest = true ∧
     answers (exec (.loadWheelTableEntries .keyboard [1, 0, 0xFF, 1, 41, 0xAA, 88]) s) .keyboard .notNow = true ∧
     Ready .loadWheelTable .keyboard [2, 1, 0] s ∧
     leads (exec (.loadWheelTableFinal .keyboard [2, 1, 0]) s) (fun t => t.wheels.slots.map Slot.number = [0, 2, 0, 0]) = true ∧
     answers (exec (.loadWheelTableFinal .keyboard [2, 1, 1]) s) .keyboard .badValue = true ∧
     answers (exec (.loadWheelTableFinal .keyboard [2, 0, 0]) s) .keyboard .notNow = true) := by decide +kernel

theorem test_WheelReport_premises :
    Ready .wheelReport .mechanism [63] running ∧
    answers (exec (.wheelReport .mechanism [64]) running) .mechanism .badValue = true ∧
    leads (exec (.wheelReport .mechanism [7]) running) (fun t => statusOn t .mechanism = some .ok && t.notices = running.notices) =
      true ∧
    leads (exec (.wheelReport .mechanism [7]) { running with wheels := { running.wheels with mounted := 63 } })
      (·.notices.keyboard.pending = [⟨.wheelChanged, 1, [63, 7]⟩]) = true := by decide +kernel

/-- The wheel change of 01_character_codes_wheels_and_wheel_tables.md, in small: a strike on the wheel takes the new petal, one
of a code not on it leaves with its cell PRINTED. -/
theorem test_ReResolution_premises :
    (let s := withOrders [⟨41, false, 0, 3, { striking .strike 0 300 12 with petal := some 30 }⟩,
         ⟨42, false, 0, 3, striking .strike 1 310 12⟩]
       (holding .keyboard .direct [{ cell 0 0x62 295 10 .released with outstanding := 1 },
         { cell 1 0x7F 305 10 .released with outstanding := 1 }] running)
     mountedTable s = some wheel7 ∧
     (reResolve s).dispatch.orders.map (fun o => (o.serial, o.job.petal, o.job.wheel)) = [(41, some 15, some 7)] ∧
     ((reResolve s).lines.current.cells.map fun c => (c.state, c.outstanding, c.notOnWheel)) =
       [(.released, 1, false), (.printed, 0, true)] ∧
     (reResolve s).notices.keyboard.pending = [⟨.skippedCharacters, 1, [1]⟩]) ∧
    (let held := { cell 1 0x7F 305 12 .held with mark := .known, ticket := some 40 }
     let s := withOrders [⟨42, false, 0, 3, striking .strike 0 300 12⟩]
       (holding .keyboard .word [cell 0 0x7F 295 10 .lifting, held] running)
     held.isHeld = true ∧ (∀ o ∈ s.dispatch.orders, o.job.cell ≠ some 1) ∧
     (∀ x ∈ allCells s, x.state = .lifting → x.ticket ≠ held.ticket) ∧ allCells (reResolve s) = [held]) ∧
    reResolve State.reset = State.reset ∧ mountedTable State.reset = none := by decide +kernel

/-! ## Witnesses: orders and energy -/

/-- A serial in use is passed over; with all 256 in use the oldest record gives way (R88). -/
theorem test_AppendedOrders_premises :
    SerialsOk running ∧ running.dispatch.orders.length < 32 ∧ serialInUse running 7 = false ∧
    (let record := fun n : Nat => (⟨n, 300, some 15, none, some 2, some 7, some .main, some 0, byte n, false⟩ : StrikeRecord)
     let s := { withOrders ((List.range 16).map fun n => ⟨byte (240 + n), false, 0, 3, striking .strike 0 300 7⟩) running with
       correction := { running.correction with memory := (List.range 240).map record } }
     SerialsOk s ∧ s.dispatch.orders.length < 32 ∧
     ((List.range 256).all fun n => serialInUse s (byte n)) = true ∧
     ((appendJob (Job.plain .move 400 .keyboard none) s).dispatch.orders.getLast?.map (·.serial)) = some 0 ∧
     (appendJob (Job.plain .move 400 .keyboard none) s).correction.memory.length = 239) ∧
    ((appendJob (striking .strike 0 300 7) running).dispatch.orders.getLast?.map fun o => (o.serial, o.travel, o.cost)) =
      some (1, 180, 5) := by decide +kernel

/-- The travel charge (the table of R114): 0, 120, 121 and 1559 steps, and OFF; the cost of a class-4 strike (R111). -/
theorem test_AppendedOrders_travel_and_class :
    ([0, 120, 121, 1559].map (travelPart running.energy)) = [0, 1, 2, 13] ∧
    travelPart { running.energy with travelCharge := false } 1559 = 0 ∧
    [(900, 120), (120, 900)].map (fun x => distance x.1 x.2) = [780, 780] ∧
    [1, 2, 3, 4].map (classCost { running.energy with cost4 := 15 }) = [2, 3, 4, 15] := by decide +kernel

theorem test_StrikesOfACell_premises :
    (0x7F : Code) ≠ 0x20 ∧ (wheel7.entry 0x7F).petal = none ∧ (wheel7.entry 0x61).petal ≠ none ∧
    strikeJobs wheel7 .heavy (cell 0 0x7F 120 12 .held) = [] ∧
    (strikeJobs wheel7 .heavy (cell 0 0x61 120 12 .held)).map (·.energy) = [some 3] ∧
    (strikeJobs wheel7 .normal { cell 0 0x61 1558 2 .held with bold := true }).map (·.target) = [1559, 1559] := by
  decide +kernel

theorem test_Gates_premises :
    (let o : Order := ⟨9, false, 0, 3, striking .lift 0 300 12⟩
     let s := withOrders [o] running
     gate s o = .wrongWheel ∧ isOfferable s = false ∧ headOrder s = some o ∧ o.job.wheel = some 12 ∧
     (judge s).correction.wrongWheel = some 9 ∧ (judge s).notices.keyboard.pending = [⟨.cannotLift, 1, [2, 12]⟩] ∧
     judge (judge s) = judge s) ∧
    (let o : Order := ⟨9, false, 0, 3, striking .strike 0 300 7⟩
     let s := withOrders [o] running
     isOfferable s = true ∧ s.dispatch.offerable = false ∧ isOfferable (judge s) = true ∧ (judge s).dispatch.offerable = true ∧
     gate { s with energy := { s.energy with level := 3 } } o = .open_ ∧
     gate { s with energy := { s.energy with level := 2 } } o = .energy ∧
     gate (withOrders (List.replicate 3 { o with fetched := true } ++ [o]) s) o = .open_ ∧
     gate (withOrders (List.replicate 4 { o with fetched := true } ++ [o]) s) o = .windowFull ∧
     gate ready o = .coverOpen) := by decide +kernel

theorem test_FetchOrder_premises :
    (let o : Order := ⟨9, false, 0, 3, striking .strike 0 300 7⟩
     let s := withOrders [o] running
     Ready .fetchOrder .mechanism [] s ∧ headOrder s = some o ∧ gate s o = .open_ ∧
     leads (exec (.fetchOrder .mechanism []) s) (fun t => statusOn t .mechanism = some .ok && t.energy.level = 93 &&
       t.dispatch.orders.map (·.fetched) = [true] && (payloadOn t .mechanism).take 5 = [9, 0, 1, 1, 44]) = true ∧
     Ready .readNextOrder .interface [] s) ∧
    headOrder (withOrders [] running) = none ∧
    answers (exec (.readNextOrder .interface []) (withOrders [] running)) .interface .none_ = true ∧
    leads (exec (.fetchOrder .mechanism []) (withOrders [] running)) (fun t => payloadOn t .mechanism = [0, 0xFF]) = true ∧
    leads (exec (.fetchOrder .mechanism []) (withOrders [⟨9, false, 0, 3, striking .lift 0 300 12⟩] running))
      (fun t => payloadOn t .mechanism = [8, 12]) = true := by decide +kernel

theorem test_OrderDone_premises :
    (let o : Order := ⟨9, true, 0, 3, striking .strike 0 300 7⟩
     let s := withOrders [o] (holding .keyboard .direct [{ cell 0 0x61 295 10 .released with outstanding := 1 }] running)
     Ready .orderDone .mechanism [9, 0, 0] s ∧
     leads (exec (.orderDone .mechanism [9, 0, 0]) s) (fun t => t.dispatch.c = 300 && t.dispatch.orders = [] &&
       t.correction.memory.map (·.serial) = [9] && t.lines.current.cells.map (·.state) = [.printed] &&
       t.service.counters.map (·.value) = [1, 0, 0, 3]) = true ∧
     leads (exec (.orderDone .mechanism [9, 1, 3]) s) (fun t => t.dispatch.state = .halted &&
       t.dispatch.orders.map (·.fetched) = [false] &&
       t.notices.keyboard.pending = [⟨.dispatchHalted, 1, [9, 3]⟩]) = true ∧
     answers (exec (.orderDone .mechanism [9, 1, 4]) s) .mechanism .badValue = true ∧
     answers (exec (.orderDone .mechanism [9, 2, 0]) s) .mechanism .badValue = true ∧
     answers (exec (.orderDone .mechanism [8, 0, 0]) s) .mechanism .stale = true) ∧
    (let with_ := fun j : Job => withOrders [⟨9, true, 0, 3, j⟩] running
     leads (exec (.orderDone .mechanism [9, 0, 63]) (with_ (Job.plain .init 120 .automatic none)))
       (fun t => t.wheels.mounted = 63 && t.dispatch.c = 120) = true ∧
     answers (exec (.orderDone .mechanism [9, 0, 64]) (with_ (Job.plain .home 120 .automatic none))) .mechanism .badValue = true ∧
     leads (exec (.orderDone .mechanism [9, 0, 0]) (with_ (Job.plain .move 500 .keyboard none))) (·.dispatch.c = 500) = true ∧
     leads (exec (.orderDone .mechanism [9, 0, 0]) (with_ (Job.plain .feed 500 .keyboard (some 2)))) (·.dispatch.c = 500) = true ∧
     leads (exec (.orderDone .mechanism [9, 0, 0]) (with_ (Job.plain .ret 120 .keyboard (some 2)))) (·.dispatch.c = 120) = true ∧
     leads (exec (.orderDone .mechanism [9, 0, 0]) (with_ (striking .lift 0 300 7))) (·.service.tape = 65534) = true) := by
  decide +kernel

theorem test_WhatACompletionLeaves_premises :
    running.correction.memory.length < 240 ∧ running.dispatch.homeInterval ≠ 0 ∧
    (countHome { running with dispatch := { running.dispatch with homeCount := 1 } }).dispatch.homeDue = true ∧
    (countHome { running with dispatch := { running.dispatch with homeCount := 2 } }).dispatch.homeCount = 1 ∧
    countHome { running with dispatch := { running.dispatch with homeInterval := 0 } } =
      { running with dispatch := { running.dispatch with homeInterval := 0 } } ∧
    (countCompletion ⟨9, true, 12, 5, striking .strike 0 300 7⟩ { running with service := { running.service with
      ribbon := 10, ribbonThreshold := 0, counters := [⟨4294967295, false, .orders, 1, 1, 0, 0⟩] } }).service.counters =
      [⟨4294967295, true, .orders, 1, 1, 0, 0⟩] ∧
    (countCompletion ⟨9, true, 12, 5, striking .strike 0 300 7⟩ { running with service := { running.service with
      ribbon := 10 } }).notices.keyboard.pending = [⟨.supplyLow, 1, [0, 0, 0, 0]⟩] := by decide +kernel

theorem test_ResumeAndDiscard_premises :
    (let s := { withOrders [⟨9, false, 0, 3, striking .strike 0 300 7⟩, ⟨10, false, 0, 5,
         { striking .lift 0 300 7 with link := some (.serial 9) }⟩]
         (holding .keyboard .direct [{ cell 0 0x61 295 10 .lifting with outstanding := 1 }] running) with
       dispatch := { running.dispatch with orders := [⟨9, false, 0, 3, striking .strike 0 300 7⟩, ⟨10, false, 0, 5,
         { striking .lift 0 300 7 with link := some (.serial 9) }⟩], state := .halted } }
     Ready .resume .keyboard [] s ∧ s.dispatch.state = .halted ∧ SerialsOk s ∧
     leads (exec (.resume .keyboard []) s) (fun t => t.dispatch.state = .running && t.dispatch.orders = [] &&
       t.lines.current.cells = []) = true ∧
     Ready .discard .keyboard [] s ∧
     leads (exec (.discard .keyboard []) s) (fun t => t.dispatch.state = .running &&
       t.dispatch.orders.map (·.job) = [Job.plain .init 0 .automatic none]) = true) ∧
    running.dispatch.state = .running ∧ answers (exec (.resume .keyboard []) running) .keyboard .notNow = true ∧
    answers (exec (.discard .keyboard []) running) .keyboard .notNow = true := by decide +kernel

theorem test_HomeOrders_premises :
    Ready .forceHome .keyboard [] running ∧ running.dispatch.homeHeld = none ∧
    leads (exec (.forceHome .keyboard []) running) (fun t => payloadOn t .keyboard = [1] &&
      t.dispatch.orders.map (fun o => (o.job.kind, o.job.target)) = [(.init, 120), (.home, 120)]) = true ∧
    leads (exec (.forceHome .keyboard []) (withOrders [] running)) (fun t =>
      t.dispatch.orders.map (·.job.target) = [0]) = true ∧
    (let o : Order := ⟨9, false, 0, 3, striking .strike 0 300 7⟩
     answers (exec (.forceHome .keyboard []) (withOrders (List.replicate 32 o) running)) .keyboard .full = true ∧
     answers (exec (.forceHome .keyboard []) (withOrders (List.replicate 31 o) running)) .keyboard .ok = true) ∧
    Ready .setHomeInterval .keyboard [0] running ∧
    leads (exec (.setHomeInterval .keyboard [255]) running) (·.dispatch.homeCount = 25500) = true ∧
    leads (exec .homeAppend { running with dispatch := { running.dispatch with homeHeld := some 300, homeDue := true } })
      (fun t => t.dispatch.homeHeld = none && t.dispatch.orders.length = 2) = true ∧
    leads (exec .homeAppend running) (· = running) = true ∧
    leads (exec .homeCountExpiry { running with dispatch := { running.dispatch with homeCount := 0 } })
      (fun t => t.dispatch.homeCount = 2000 && t.dispatch.homeDue) = true ∧
    leads (exec .homeCountExpiry running) (· = running) = true := by decide +kernel

theorem test_CancelLifts_premises :
    (let record : StrikeRecord := ⟨5, 300, some 15, none, some 2, some 7, some .main, some 0, 3, true⟩
     let s := { withOrders [⟨9, false, 0, 3, { striking .lift 0 300 7 with link := some (.record 5 3) }⟩,
         ⟨10, false, 0, 0, Job.plain .move 300 .keyboard none⟩]
         (holding .keyboard .direct [cell 0 0x61 295 10 .lifting] running) with
       correction := { running.correction with memory := [record] } }
     Ready .cancelLifts .keyboard [] s ∧ s.correction.held = [] ∧
     leads (exec (.cancelLifts .keyboard []) s) (fun t => payloadOn t .keyboard = [1] &&
       t.dispatch.orders.map (·.serial) = [10] && t.correction.memory.map (·.pending) = [false] &&
       t.composer.p = s.composer.p && t.lines.current.cells.map (·.state) = [.printed]) = true) ∧
    (let wait := fun j : Job => { running with correction := { running.correction with held := [j] } }
     leads (exec .heldOrderAppend (wait (striking .lift 0 300 7))) (fun t => t.dispatch.orders.length = 2 &&
       t.correction.held = []) = true ∧
     leads (exec .heldOrderAppend (wait (Job.plain .move 300 .keyboard none))) (fun t => t.dispatch.orders.length = 2) = true ∧
     leads (exec .heldOrderAppend running) (· = running) = true) := by decide +kernel

/-- Capacity 15 is brought to 16; a class cost of 16 to 15. -/
theorem test_EnergySettings_premises :
    Ready .setEnergy .keyboard [0, 1, 15] running ∧
    settingFields [1, 1, 1, 1, 1, 1, 1, 1, 1, 1] [0, 3, 15, 16] =
      some [some 15, some 16, none, none, none, none, none, none, none, none] ∧
    leads (exec (.setEnergy .keyboard [0, 3, 15, 16]) running) (fun t => statusOn t .keyboard = some .clamped &&
      t.energy.capacity = 16 && t.energy.cost1 = 15 && t.energy.level = 16) = true ∧
    settingFields [1, 1, 1, 1, 1, 1, 1, 1, 1, 1] [4, 0] = none ∧
    answers (exec (.setEnergy .keyboard [4, 0]) running) .keyboard .badRequest = true ∧
    answers (exec (.setEnergy .keyboard [2, 0, 3]) running) .keyboard .badValue = true ∧
    answers (exec (.setEnergy .keyboard [2, 0, 2]) running) .keyboard .ok = true ∧
    EnergyOk running.energy ∧ running.energy.refillRunning = true ∧ running.energy.level = running.energy.capacity ∧
    leads (exec .refillExpiry running) (·.energy = running.energy) = true ∧
    leads (exec .refillExpiry { running with energy := { running.energy with level := 95 } }) (·.energy.level = 96) = true := by
  decide +kernel

/-! ## Witnesses: spelling and dictionary -/

theorem test_SpellingSettings_premises :
    Ready .setSpelling .keyboard [0, 4, 0] running ∧
    settingFields [1, 1, 1, 1, 1] [0, 4, 0] = some [none, none, some 0, none, none] ∧
    leads (exec (.setSpelling .keyboard [0, 4, 0]) running) (fun t => t.spelling.dictState = .off &&
      t.spelling.port.any (·.discard)) = true ∧
    leads (exec (.setSpelling .keyboard [0, 4, 1]) { running with spelling := { running.spelling with dictState := .available } })
      (fun t => t.spelling.dictState = .readingHeader && t.spelling.port.any (·.discard)) = true ∧
    leads (exec (.setSpelling .keyboard [0, 4, 1]) running) (fun t => t.spelling = running.spelling) = true ∧
    answers (exec (.setSpelling .keyboard [0, 16, 7]) running) .keyboard .badValue = true ∧
    answers (exec (.setSpelling .keyboard [0, 16, 8]) running) .keyboard .ok = true ∧
    answers (exec (.setSpelling .keyboard [0, 16, 0x78]) running) .keyboard .badValue = true ∧
    answers (exec (.setSpelling .keyboard [0, 32]) running) .keyboard .badRequest = true ∧
    Ready .setSkipRule .keyboard [3, 0, 6, 24, 25] running ∧
    leads (exec (.setSkipRule .keyboard [3, 0, 6, 24, 25]) running) (fun t => statusOn t .keyboard = some .clamped &&
      t.spelling.skipRules[3]? = some ⟨false, 24, 24, .any, false⟩) = true ∧
    answers (exec (.setSkipRule .keyboard [3, 0, 6, 5, 4]) running) .keyboard .badValue = true ∧
    answers (exec (.setSkipRule .keyboard [4, 0, 0]) running) .keyboard .badValue = true ∧
    answers (exec (.setSkipRule .keyboard [3, 0, 32]) running) .keyboard .badRequest = true := by decide +kernel

/-- Words of 1, 2, 24 and 25 codes, and an apostrophe at the end. -/
theorem test_SpellAnswers_user_words :
    Ready .addWord .keyboard [0x41, 0x62] running ∧ Ready .removeWord .keyboard [0x41, 0x62] running ∧
    leads (exec (.addWord .keyboard [0x41, 0x62]) running) (·.spelling.userWords = [[0x61, 0x62]]) = true ∧
    answers (exec (.addWord .keyboard [0x41]) running) .keyboard .badValue = true ∧
    answers (exec (.addWord .keyboard (List.replicate 24 0x61)) running) .keyboard .ok = true ∧
    answers (exec (.addWord .keyboard (List.replicate 25 0x61)) running) .keyboard .badValue = true ∧
    answers (exec (.addWord .keyboard [0x61, 0x62, 0x27]) running) .keyboard .badValue = true ∧
    answers (exec (.addWord .keyboard [0x61, 0x27, 0x27, 0x62]) running) .keyboard .badValue = true ∧
    answers (exec (.removeWord .keyboard [0x61, 0x62]) running) .keyboard .none_ = true ∧
    (let s := { running with spelling := { running.spelling with userWords := [[0x61, 0x62]] } }
     leads (exec (.removeWord .keyboard [0x41, 0x62]) s) (·.spelling.userWords = []) = true ∧
     leads (exec (.addWord .keyboard [0x41, 0x62]) s) (fun t => statusOn t .keyboard = some .ok &&
       t.spelling.userWords = [[0x61, 0x62]]) = true) ∧
    answers (exec (.addWord .keyboard [0x41, 0x62]) { running with spelling := { running.spelling with
      userWords := List.replicate 128 [0x7A, 0x7A] } }) .keyboard .full = true := by decide +kernel

/-- A word of two cells in SPELL HOLD under ticket 40. -/
def misspelt (m : SpellMark) (st : CellState) : State :=
  let c := fun (n : Nat) (code : Code) => { cell n code (120 + 12 * n) 12 st with mark := m, ticket := some 40, word := some 0 }
  let s := holding .keyboard .word [c 0 0x74, c 1 0x65] running
  { s with spelling := { s.spelling with
      tickets := [⟨40, [0x74, 0x65], .keyboard, false⟩], dictState := .available, bucketCount := some 64, port := none } }

theorem test_SpellAnswers_premises :
    Ready .spellAnswer .keyboard [40, 0] (misspelt .unknown .spellHold) ∧
    leads (exec (.spellAnswerAccept .keyboard [40, 0]) (misspelt .unknown .spellHold))
      (fun t => t.lines.current.cells.all fun c => c.mark = .accepted && c.state = .held) = true ∧
    leads (exec (.spellAnswerAdd .keyboard [40, 1]) (misspelt .unknown .spellHold))
      (fun t => t.spelling.userWords = [[0x74, 0x65]]) = true ∧
    leads (exec (.spellAnswerReject .keyboard [40, 2]) (misspelt .unknown .spellHold))
      (fun t => t.lines.current.cells.all fun c => c.mark = .unknown && c.state = .held) = true ∧
    answers (exec (.spellAnswerReject .keyboard [40, 2]) (misspelt .unknown .held)) .keyboard .notNow = true ∧
    answers (exec (.spellAnswerAccept .keyboard [40, 0]) (misspelt .checking .held)) .keyboard .notNow = true ∧
    answers (exec (.spellAnswerAccept .keyboard [41, 0]) (misspelt .unknown .spellHold)) .keyboard .stale = true := by
  decide +kernel

/-- The directory entry of "type" is read from 970 with 1024 buckets (worked case of 08_spelling.md). -/
theorem test_HeaderAndDirectory_premises :
    (let port := fun (k : TransferKind) (d : Bool) => { misspelt .checking .held with spelling :=
       { (misspelt .checking .held).spelling with
         queue := [⟨40, true⟩], port := some ⟨k, 0, 8, .khz100, 0x54, d⟩ } }
     leads (exec (.headerTransferEnd (.data [0x46, 0x4B, 1, 16, 0, 0, 0, 1])) (port .header false))
       (fun t => t.spelling.dictState = .available && t.spelling.bucketCount = some 4096) = true ∧
     leads (exec (.headerTransferEnd (.data [0x46, 0x4B, 1, 0, 32, 0, 0, 1])) (port .header false))
       (fun t => t.spelling.dictState = .unavailable && t.notices.keyboard.pending.any (·.detail = [2])) = true ∧
     leads (exec (.headerTransferEnd (.data [0x46, 0x4B, 2, 0, 64, 0, 0, 1])) (port .header false))
       (fun t => t.notices.keyboard.pending.any (·.detail = [1])) = true ∧
     leads (exec (.headerTransferEnd .noAcknowledge) (port .header true)) (fun t => t.spelling.dictState = .available) = true ∧
     leads (exec (.directoryTransferEnd (.data [0, 0, 0, 0, 8, 0])) (port (.directory 40 3) false))
       (fun t => t.spelling.port = some ⟨.body 40 [0x74, 0x65] ⟨2048, none⟩, 0, 128, .khz100, 0x54, false⟩) = true ∧
     leads (exec (.directoryTransferEnd (.data [0, 0, 0, 0, 8, 1])) (port (.directory 40 3) false))
       (fun t => t.spelling.queue = [] && t.lines.current.cells.all (·.mark = .unchecked)) = true ∧
     leads (exec (.directoryTransferEnd (.data [0, 0, 9, 0, 0, 9])) (port (.directory 40 3) false))
       (fun t => t.lines.current.cells.all (·.mark = .unknown)) = true ∧
     leads (exec (.directoryTransferEnd .noAcknowledge) (port (.directory 40 3) true))
       (fun t => t.spelling.dictState = .available) = true ∧
     leads (exec (.directoryTransferEnd .noAcknowledge) (port (.directory 40 3) false))
       (fun t => t.spelling.dictState = .unavailable) = true) ∧
    (let s := { misspelt .checking .held with spelling := { (misspelt .checking .held).spelling with
       tickets := [⟨40, [116, 121, 112, 101], .keyboard, false⟩], queue := [⟨40, false⟩], bucketCount := some 1024 } }
     ticketRecord s 40 = some ⟨40, [116, 121, 112, 101], .keyboard, false⟩ ∧
     leads (exec .lookupStart s) (fun t => t.spelling.port.any fun x => x.address = 970 && x.length = 6) = true) ∧
    leads (exec .lookupStart (misspelt .unknown .held)) (· = misspelt .unknown .held) = true ∧
    leads (exec .headerTransferStart { running with spelling := { running.spelling with port := none } })
      (·.spelling.port = some (Transfer.header .khz100 0x54)) = true := by decide +kernel

theorem test_BodyFindsTheWord_premises :
    (let port := fun (p : BodyProgress) (d : Bool) => { misspelt .checking .held with spelling :=
       { (misspelt .checking .held).spelling with
         queue := [⟨40, true⟩], port := some ⟨.body 40 [0x74, 0x65] p, 60000, 3, .khz100, 0x54, d⟩ } }
     leads (exec (.bodyTransferEnd (.data [2, 0x74, 0x65])) (port ⟨3, none⟩ false))
       (fun t => t.spelling.queue = [] && t.lines.current.cells.all (·.mark = .known)) = true ∧
     leads (exec (.bodyTransferEnd (.data [2, 0x75])) (port ⟨3, none⟩ false))
       (fun t => t.lines.current.cells.all (·.mark = .unknown)) = true ∧
     leads (exec (.bodyTransferEnd (.data [2, 0x74, 0x64])) (port ⟨4, none⟩ false))
       (fun t => t.spelling.port.any fun x => x.address = 60003 && x.length = 1) = true ∧
     leads (exec (.bodyTransferEnd (.data [2, 0x74, 0x65])) (port ⟨3, none⟩ true)) (fun t => t.spelling.port = none) = true ∧
     leads (exec (.bodyTransferEnd .noAcknowledge) (port ⟨3, none⟩ false)) (·.spelling.dictState = .unavailable) = true ∧
     leads (exec (.bodyTransferEnd .noAcknowledge) running) (· = running) = true) ∧
    [[(0x74 : Code), 0x64], [0x74, 0x65], [0x74, 0x65, 0x61]].Pairwise
      (fun x y => List.Lex (fun (c d : Code) => c.toNat < d.toNat) x y) ∧
    scanBody [0x74, 0x65] ⟨10, none⟩ [2, 0x74, 0x64, 2, 0x74, 0x65, 3, 0x74, 0x65, 0x61] = .reached .known ∧
    List.Lex (fun (c d : Code) => c.toNat < d.toNat) [0x74, 0x64] [(0x74 : Code), 0x65] ∧
    [scanBody [0x74, 0x65] ⟨4, none⟩ [2, 0x74, 0x64, 1], scanBody [0x74, 0x65] ⟨4, none⟩ [25, 0x74, 0x64, 1],
      scanBody [0x74, 0x65] ⟨6, none⟩ [2, 0x74, 0x64, 3, 0x74, 0x65]] = List.replicate 3 (.reached .unchecked) := by
  decide +kernel

/-- The transfers of a lookup of "type" (worked case of 08_spelling.md): the directory entries from 970 (0x0003CA), the body from
60000 (0x00EA60), of which 10 bytes are read, the tenth not acknowledged; in the image without the middle entry 8 bytes. -/
theorem test_transfers_of_a_lookup :
    (let directory : Transfer := ⟨.directory 40 318, 970, 6, .khz100, 0x54, false⟩
     let body := fun n : Nat => (⟨.body 40 [116, 121, 112, 101] ⟨n, none⟩, 60000, n, .khz100, 0x54, false⟩ : Transfer)
     answeredTransfer directory [0, 0xEA, 0x60, 0, 0xEA, 0x6F] =
       [.start, .sent 0xA8 true, .sent 0 true, .sent 3 true, .sent 0xCA true, .start, .sent 0xA9 true, .received 0 true,
         .received 0xEA true, .received 0x60 true, .received 0 true, .received 0xEA true, .received 0x6F false, .stop] ∧
     (answeredTransfer (body 15) [4, 116, 120, 110, 100, 4, 116, 121, 112, 101, 4, 116, 122, 114, 102]).drop 15 =
       [.received 112 true, .received 101 false, .stop] ∧
     (dataBytes (body 15) [4, 116, 120, 110, 100, 4, 116, 121, 112, 101, 4, 116, 122, 114, 102]).length = 10 ∧
     dataBytes (body 10) [4, 116, 120, 110, 100, 4, 116, 122, 114, 102] = [4, 116, 120, 110, 100, 4, 116] ++ [122] ∧
     unansweredTransfer directory 0 = [.start, .sent 0xA8 false, .stop] ∧
     levels 0xA8 true = [true, false, true, false, true, false, false, false, false]) := by decide +kernel

/-! ## Witnesses: display, signals, service, reading -/

theorem test_MessageSlots_premises :
    Ready .showMessage .keyboard (5 :: List.replicate 32 0x41) running ∧
    leads (exec (.showMessage .keyboard (5 :: List.replicate 32 0x41)) running) (·.display.kbSlot.isSome) = true ∧
    leads (exec (.showMessage .interface [0, 0x41]) running) (fun t => t.display.ifSlot = some ⟨[0x41], 0, 0⟩) = true ∧
    answers (exec (.showMessage .keyboard (5 :: List.replicate 33 0x41)) running) .keyboard .badRequest = true ∧
    answers (exec (.showMessage .keyboard [5]) running) .keyboard .badRequest = true ∧
    answers (exec (.showMessage .keyboard [5, 0x1F]) running) .keyboard .badValue = true ∧
    (let s := { running with display := { running.display with kbSlot := some ⟨[0x41], 5, 5⟩, ifSlot := some ⟨[0x42], 5, 5⟩ } }
     Ready .clearMessage .interface [] s ∧
     leads (exec (.clearMessage .interface []) s) (fun t => t.display.ifSlot = none && t.display.kbSlot.isSome) = true ∧
     leads (exec .messageExpiry s) (fun t => t.display.kbSlot = none && t.display.ifSlot.isSome) = true ∧
     leads (exec .messageExpiry { s with display := { s.display with kbSlot := some ⟨[0x41], 0, 0⟩ } })
       (fun t => t.display.kbSlot.isSome) = true ∧
     leads (exec .messageExpiry { s with display := { s.display with kbSlot := none } })
       (fun t => t.display.ifSlot = none) = true) := by decide +kernel

theorem test_DisplayTransfers_premises :
    (let sending := fun (n : Nat) (w : Bool) => { running with display := { running.display with
       phase := .sending, frame := some ⟨snapshotBytes running, n⟩, busyWait := w } }
     DisplayOk running.display ∧ DisplayOk (sending 39 true).display ∧ running.display.phase = .idle ∧
     running.display.dirty = true ∧
     leads (exec (.displaySnapshot true) running) (fun t => t.display.phase = .sending && t.display.busyWait) = true ∧
     leads (exec (.displayByteSent false) (sending 0 true)) (fun t => t.display.data = some 0x1F &&
       t.display.frame.any (·.next = 1)) = true ∧
     leads (exec (.displayByteSent false) (sending 39 true)) (fun t => t.display.phase = .idle && t.display.frame = none) = true ∧
     leads (exec .busyWaitExpiry (sending 38 true)) (fun t => t.display.phase = .retryWait &&
       t.notices.keyboard.pending = [⟨.displayFault, 1, [38]⟩]) = true ∧
     leads (exec .busyWaitExpiry (sending 38 false)) (fun t => t.display.phase = .sending) = true ∧
     leads (exec (.retryTimerExpiry false) { running with display := { running.display with
       phase := .retryWait, retryTimer := true } }) (fun t => t.display.phase = .sending) = true ∧
     leads (exec (.retryTimerExpiry false) running) (fun t => t.display.phase = .idle) = true) := by decide +kernel

/-- A key that changes the line, a setting, and a line end (R175). -/
theorem test_DirtyFlag_premises :
    (let clean := fun (s : State) => { s with display := { s.display with dirty := false } }
     leads (exec (.composePrintable .keyboard) (clean (typing .direct [0x61]))) (fun t => t.composer.p = 132 && t.display.dirty) =
       true ∧
     leads (exec (.setComposition .keyboard [0, 0x80, 90]) (clean running)) (fun t => t.settings.hotZone = 90 && t.display.dirty) = true ∧
     leads (exec (.carriageReturn .keyboard) (clean (typing .direct [0x0D]))) (fun t => t.lines.outgoing.isSome &&
       t.display.dirty) = true ∧
     leads (exec (.beep .keyboard [0]) (clean running)) (fun t => !t.display.dirty) = true) := by decide +kernel

theorem test_LampsAndBeeper_premises :
    Ready .setSignals .keyboard [0, 3, 31, 9] running ∧ running.signals.lamps.length = 4 ∧
    settingFields [1, 1, 1, 1, 1, 1] [0, 3, 31, 9] = some [some 31, some 9, none, none, none, none] ∧
    leads (exec (.setSignals .keyboard [0, 3, 31, 9]) running) (fun t => statusOn t .keyboard = some .clamped &&
      t.signals.filterTime = 30 && t.signals.tone = 10) = true ∧
    answers (exec (.setSignals .keyboard [0, 4, 5]) running) .keyboard .badValue = true ∧
    answers (exec (.setSignals .keyboard [0, 64]) running) .keyboard .badRequest = true ∧
    Ready .setLamps .keyboard [15] running ∧ Ready .clearLamps .keyboard [16] running ∧
    leads (exec (.setLamps .keyboard [5]) running) (fun t => t.signals.lamps.map (·.manual) = [true, false, true, false]) = true ∧
    answers (exec (.clearLamps .keyboard [16]) running) .keyboard .badValue = true ∧
    Ready .beep .keyboard [2] running ∧
    (let sounding := fun (p : Pattern) (n : Nat) => { running with signals := { running.signals with beeper := some ⟨p, n, 20⟩ } }
     leads (exec (.beep .keyboard [2]) (sounding .double 1)) (·.signals.beeper = some ⟨.long, 0, 20⟩) = true ∧
     answers (exec (.beep .keyboard [1]) (sounding .short 0)) .keyboard .notNow = true ∧
     answers (exec (.beep .keyboard [2]) (sounding .long 0)) .keyboard .notNow = true ∧
     answers (exec (.beep .keyboard [3]) running) .keyboard .badValue = true ∧
     leads (exec .beepTimerExpiry (sounding .double 1)) (·.signals.beeper = some ⟨.double, 2, 20⟩) = true ∧
     leads (exec .beepTimerExpiry (sounding .double 2)) (·.signals.beeper = none) = true ∧
     leads (exec .beepTimerExpiry (sounding .short 0)) (·.signals.beeper = none) = true ∧
     leads (exec .beepTimerExpiry running) (· = running) = true) := by decide +kernel

theorem test_SenseInputs_premises :
    (senseOf running.signals .cover).timer = none ∧ (senseOf State.reset.signals .cover).level = .unsettled ∧
    (senseOf State.reset.signals .cover).timer ≠ none ∧
    leads (exec (.sensePinChange .paper true) running) (fun t => t.signals.paper = ⟨true, .negated, some 8, false⟩) = true ∧
    leads (exec (.sensePinChange .paper false) { running with signals := { running.signals with
      paper := ⟨true, .negated, some 8, false⟩ } }) (fun t => t.signals.paper = ⟨false, .negated, none, false⟩) = true ∧
    leads (exec (.sensePinChange .paper false) running) (fun t => t.signals = running.signals) = true ∧
    leads (exec (.filterTimerExpiry .cover) State.reset)
      (fun t => t.signals.cover = ⟨false, .negated, none, false⟩ && t.notices.keyboard.pending = []) = true ∧
    leads (exec (.filterTimerExpiry .paper) { running with signals := { running.signals with
      paper := ⟨true, .negated, some 8, false⟩ } }) (fun t => t.signals.paper = ⟨true, .asserted, none, true⟩ &&
      t.notices.keyboard.pending.map (·.kind) = [.senseChange]) = true ∧
    leads (exec (.filterTimerExpiry .paper) running) (fun t => t.signals = running.signals) = true := by decide +kernel

theorem test_SuppliesCountersStepping_premises :
    Ready .supplyNew .keyboard [1, 1, 0, 0, 0, 0, 5] running ∧
    leads (exec (.supplyNew .keyboard [1, 1, 0, 0, 0, 0, 5]) running) (fun t => statusOn t .keyboard = some .clamped &&
      t.service.tape = 65535 && t.service.tapeThreshold = 5) = true ∧
    leads (exec (.supplyNew .keyboard [0, 0, 0, 5, 0, 0, 5]) running)
      (fun t => t.notices.keyboard.pending = [⟨.supplyLow, 1, [0, 0, 0, 5]⟩]) = true ∧
    answers (exec (.supplyNew .keyboard [2, 0, 0, 5, 0, 0, 5]) running) .keyboard .badValue = true ∧
    Ready .setCounter .keyboard [3, 2, 127, 127, 15, 15] running ∧
    leads (exec (.setCounter .keyboard [3, 2, 127, 127, 15, 15]) running)
      (fun t => t.service.counters[3]? = some ⟨0, false, .tokens, 127, 127, 15, 15⟩) = true ∧
    answers (exec (.setCounter .keyboard [4, 2, 0, 0, 0, 0]) running) .keyboard .badValue = true ∧
    answers (exec (.setCounter .keyboard [3, 2, 1, 2, 0, 0]) running) .keyboard .badValue = true ∧
    Ready .counters .keyboard [0] running ∧ Ready .counters .keyboard [1] running ∧ Ready .counters .keyboard [2] running ∧
    leads (exec (.countersFreeze .keyboard [0]) running) (·.service.frozen) = true ∧
    leads (exec (.countersRun .keyboard [1]) running) (fun t => !t.service.frozen) = true ∧
    leads (exec (.countersClear .keyboard [2]) { running with service := { running.service with
      counters := [⟨9, true, .orders, 1, 1, 0, 0⟩] } }) (·.service.counters = [⟨0, false, .orders, 1, 1, 0, 0⟩]) = true ∧
    Ready .setStepping .keyboard [1] running ∧ leads (exec (.setStepping .keyboard [1]) running) (·.service.stepping) = true ∧
    answers (exec (.setStepping .keyboard [2]) running) .keyboard .badValue = true ∧
    Ready .step .keyboard [] running ∧ answers (exec (.stepRequest .keyboard []) running) .keyboard .notNow = true ∧
    leads (exec (.stepRequest .keyboard []) { running with service := { running.service with stepping := true } })
      (·.service.credit) = true := by decide +kernel

theorem test_ReadingTheState_premises :
    Ready .get .keyboard [3] running ∧ Ready .get .mechanism [14, 3] running ∧
    answers (exec (.get .keyboard [17]) running) .keyboard .badValue = true ∧
    leads (exec (.get .interface [9]) { running with settings := { running.settings with tabs := [300] } })
      (fun t => payloadOn t .interface = [1, 1, 44]) = true ∧
    Ready .readLine .keyboard [0, 0] running ∧ answers (exec (.readLine .keyboard [2, 0]) running) .keyboard .badValue = true ∧
    answers (exec (.readLine .keyboard [1, 0]) running) .keyboard .none_ = true ∧
    leads (exec (.readLine .keyboard [0, 1]) (holding .keyboard .direct [cell 0 0x61 120 12 .held] running))
      (fun t => payloadOn t .keyboard = [0, 1, 1, 0]) = true ∧
    Ready .readStatus .keyboard [1] running ∧ answers (exec (.readStatus .keyboard [2]) running) .keyboard .badValue = true ∧
    leads (exec (.readStatus .keyboard [1]) { running with signals := { running.signals with
      paper := ⟨true, .asserted, none, true⟩ } }) (fun t => !t.signals.paper.latch) = true := by decide +kernel

/-- Byte 1 of the status record (R203): page hold ON with a pending lapse, and WAITING; its bits 5 to 2 are the number's. -/
theorem test_status_record_page_hold :
    (statusRecord { running with streams := { running.streams with pageHold := .on, lapsePending := true } } .keyboard)[1]? =
      some 0x42 ∧
    (statusRecord { running with streams := { running.streams with pageHold := .waiting, takeover := true } } .keyboard)[1]? =
      some 0x81 := by decide +kernel

/-! ## Witnesses: composer -/

/-- A keyboard that sends one code over a line with given cells, in a composition, P standing at `p`. -/
def composing (m : Mode) (code : Code) (p : Nat) (cells : List Cell) : State :=
  let s := typing m [code]
  let s := if cells = [] then s else holding .keyboard m cells s
  { s with composer := { s.composer with p := p, cursor := cells.length, nextCell := cells.length } }

/-- The checks of R66 at their limits: a wheel's missing code, 160 cells, the last position, the right margin. -/
theorem test_DirectPrintables_premises :
    Admits .keyboard 0x61 (composing .direct 0x61 120 []) ∧ mountedTable (composing .direct 0x61 120 []) = some wheel7 ∧
    refusal wheel7 .direct 0x7F running = some 3 ∧
    refusal wheel7 .direct 0x61 (holding .keyboard .direct (List.replicate 160 (cell 0 0x61 120 12 .held)) running) = some 4 ∧
    refusal wheel7 .direct 0x61 (composing .direct 0x61 1548 []) = some 5 ∧
    refusal wheel7 .direct 0x61 (composing .direct 0x61 1547 []) = some 6 ∧
    refusal wheel7 .direct 0x61 (composing .direct 0x61 888 []) = none ∧
    refusal wheel7 .direct 0x61 (composing .direct 0x61 889 []) = some 6 ∧
    leads (exec (.composePrintable .keyboard) (composing .direct 0x61 889 [])) (fun t =>
      t.notices.keyboard.pending = [⟨.refusedCharacters, 1, [6, 1]⟩] && t.signals.beeper.isSome && t.streams.typeAhead = []) =
      true ∧
    leads (exec (.composePrintable .keyboard) (composing .direct 0x61 120 [])) (fun t => t.composer.p = 132 &&
      t.lines.current.cells.map (fun c => (c.start, c.state, c.outstanding)) = [(120, .released, 1)] &&
      t.dispatch.orders.map (·.job.target) = [120, 126]) = true ∧
    leads (exec (.composePrintable .keyboard) (composing .direct 0x20 120 [])) (fun t =>
      t.lines.current.cells.map (·.state) = [.printed] && t.dispatch.orders.map (·.job.kind) = [.init, .move]) = true ∧
    (let full := withOrders (List.replicate 32 ⟨9, false, 0, 3, striking .strike 0 300 7⟩) (composing .direct 0x61 120 [])
     strikeJobs wheel7 .normal (cell 0 0x61 120 12 .held) ≠ [] ∧
     leads (exec (.composePrintable .keyboard) full) (· = full) = true) ∧
    (composing .direct 0x20 828 []).settings.right ≤ (composing .direct 0x20 828 []).composer.p + 72 := by decide +kernel

theorem test_WordAndLinePrintables_premises :
    refusal wheel7 .word 0x61 (takeHead .keyboard (composing .word 0x61 120 [])) = none ∧
    leads (exec (.composePrintable .keyboard) (composing .word 0x61 120 [])) (fun t => t.composer.openGroup = [0] &&
      t.lines.current.cells.map (·.state) = [.held] && t.composer.p = 132) = true ∧
    leads (exec (.composePrintable .keyboard) (composing .word 0x20 120 [])) (fun t => t.composer.closedGroups = [[0]]) = true ∧
    refusal wheel7 .line 0x61 (takeHead .keyboard (composing .line 0x61 120 [])) = none ∧
    leads (exec (.composePrintable .keyboard) (composing .line 0x62 132 [cell 0 0x61 120 12 .held])) (fun t =>
      t.lines.current.cells.map (fun c => (c.code, c.start)) = [(0x61, 120), (0x62, 132)] && t.composer.cursor = 2) = true ∧
    lineSpelling true (insertCells 1 .keyboard 0x61 12 (takeHead .keyboard (composing .line 0x61 120 []))) ≠ none := by
  decide +kernel

theorem test_ReturnEndsTheLine_premises :
    Admits .keyboard 0x0D (composing .direct 0x0D 132 [cell 0 0x61 120 12 .printed]) ∧
    endWord .direct (takeHead .keyboard (composing .direct 0x0D 132 [cell 0 0x61 120 12 .printed])) ≠ none ∧
    leads (exec (.carriageReturn .keyboard) (composing .direct 0x0D 132 [cell 0 0x61 120 12 .printed])) (fun t =>
      t.lines.current.cells = [] && t.streams.holder = none && t.composer.p = 120 &&
      t.lines.outgoing.any (fun l => l.state = .printing && l.returnSerial = some 1)) = true ∧
    leads (exec (.carriageReturn .keyboard) (composing .word 0x0D 132 [cell 0 0x61 120 12 .held])) (fun t =>
      t.streams.typeAhead = [0x0D] && t.lines.outgoing = none) = true ∧
    (let s := composing .line 0x0D 132 [cell 0 0x61 120 12 .held]
     Admits .keyboard 0x0D s ∧ compositionFor s .keyboard = .line ∧
     leads (exec (.carriageReturn .keyboard) s) (fun t => t.lines.outgoing.any (·.state = .releasing) &&
       t.lines.current.cells = []) = true) ∧
    (let s := composing .line 0x0D 132 [{ cell 0 0x61 120 12 .held with mark := .unknown, word := some 0 }]
     let s := { s with spelling := { s.spelling with kbUnknown := .hold } }
     leads (exec (.carriageReturn .keyboard) s) (fun t => t.lines.outgoing = none &&
       t.notices.keyboard.pending = [⟨.refusedCharacters, 1, [9, 1]⟩]) = true) := by decide +kernel

theorem test_JustifiedLines_premises :
    (let line := [cell 0 0x61 0 400 .held, cell 1 0x20 0 10 .held, cell 2 0x61 0 360 .held, cell 3 0x20 0 10 .held,
       cell 4 0x61 0 100 .held]
     (breakLine 120 900 1140 line).isCarried = true ∧ interiorSpaces (breakLine 120 900 1140 line).printed = 1 ∧
     (layOut 120 900 1140 10 .justify line).failed = none ∧ (layOut 120 900 1140 9 .justify line).failed = some (2, 1, 10) ∧
     ((layOut 120 900 1140 10 .justify line).printed.map (·.extra)) = [0, 10, 0]) ∧
    (breakLine 120 900 1140 [cell 0 0x61 0 781 .held]).overfull = true ∧
    (layOut 120 900 1140 24 .justify [cell 0 0x61 0 781 .held]).failed = some (1, 0, 0) ∧
    interiorSpaces (breakLine 120 900 1140
      [cell 0 0x61 0 400 .held, cell 1 0x20 0 10 .held, cell 2 0x61 0 400 .held]).printed = 0 := by decide +kernel

theorem test_PositioningAndFeeds_premises :
    (let s := composing .direct 0x09 120 []
     Admits .keyboard 0x09 s ∧ compositionFor s .keyboard = .direct ∧ endWord .direct (takeHead .keyboard s) ≠ none ∧
     tailIsMove s = false ∧
     leads (exec (.tab .keyboard) s) (fun t => t.composer.p = 900 && t.dispatch.orders.map (·.job.kind) = [.init, .move]) =
       true) ∧
    leads (exec (.backspace .keyboard) (composing .direct 0x08 120 [])) (·.composer.p = 118) = true ∧
    leads (exec (.backspace .keyboard) (composing .direct 0x08 132 [cell 0 0x61 120 12 .printed])) (·.composer.p = 120) = true ∧
    leads (exec .relocate (composing .direct 0x17 120 [cell 0 0x61 120 12 .printed])) (·.composer.p = 132) = true ∧
    leads (exec (.tab .keyboard) (withOrders [⟨9, false, 0, 0, Job.plain .move 120 .keyboard none⟩] (composing .direct 0x09 120 [])))
      (fun t => t.dispatch.orders.map (fun o => (o.serial, o.job.target, o.travel, o.cost)) = [(9, 900, 900, 8)]) = true ∧
    leads (exec (.backspace .keyboard) (composing .word 0x08 132 [cell 0 0x61 120 12 .held]))
      (fun t => t.lines.current.cells = [] && t.composer.p = 120) = true ∧
    leads (exec (.backspace .keyboard) (composing .word 0x08 132 [cell 0 0x61 120 12 .spellHold]))
      (fun t => t.notices.keyboard.pending = [⟨.refusedCharacters, 1, [8, 1]⟩]) = true ∧
    (let feeds := fun (c : Instr) (code : Code) (n : Int) => leads (exec c (composing .direct code 120 []))
       (fun t => t.dispatch.orders.getLast?.map (·.job) = some (Job.plain .feed 120 .keyboard (some n)))
     feeds (.index .keyboard) 0x0A 2 = true ∧ feeds (.reverseIndex .keyboard) 0x0B (-2) = true ∧
     feeds (.halfUp .keyboard) 0x0E (-1) = true ∧ feeds (.halfDown .keyboard) 0x0F 1 = true) := by decide +kernel

theorem test_AttributesAndLineEditing_premises :
    leads (exec (.boldOn .keyboard) (composing .direct 0x10 120 [])) (·.composer.kbAttr = ⟨true, false⟩) = true ∧
    leads (exec (.boldOff .keyboard) (composing .direct 0x11 120 [])) (·.composer.kbAttr = ⟨false, false⟩) = true ∧
    leads (exec (.underlineOn .keyboard) (composing .direct 0x12 120 [])) (·.composer.kbAttr = ⟨false, true⟩) = true ∧
    leads (exec (.underlineOff .keyboard) (composing .direct 0x13 120 [])) (·.composer.kbAttr = ⟨false, false⟩) = true ∧
    leads (exec .marginRelease (composing .direct 0x1B 120 [])) (·.composer.marginRelease) = true ∧
    leads (exec .marginRelease (composing .line 0x1B 120 [])) (·.signals.beeper = some ⟨.short, 0, 20⟩) = true ∧
    leads (exec (.centre .keyboard) (composing .direct 0x1C 120 []))
      (fun t => t.lines.current.layout = .centre && t.lines.current.composition = some .line) = true ∧
    leads (exec (.flushRight .keyboard) (composing .line 0x1D 120 [])) (·.lines.current.layout = .flush) = true ∧
    (let two := [cell 0 0x61 120 12 .held, cell 1 0x62 132 12 .held]
     leads (exec .cursorLeft (composing .line 0x18 144 two)) (fun t => t.composer.cursor = 1 && t.composer.p = 132) = true ∧
     leads (exec .cursorRight (composing .line 0x19 144 two)) (·.signals.beeper.isSome) = true ∧
     leads (exec .delete (composing .line 0x1A 144 two)) (·.signals.beeper.isSome) = true ∧
     leads (exec .delete { composing .line 0x1A 120 two with composer := { (composing .line 0x1A 120 two).composer with
       cursor := 0 } }) (fun t => t.lines.current.cells.map (fun c => (c.code, c.start)) = [(0x62, 120)]) = true ∧
     leads (exec (.backspace .keyboard) (composing .line 0x08 144 two)) (fun t => t.lines.current.cells.length = 1 &&
       t.composer.cursor = 1) = true ∧
     leads (exec .clearLine (composing .line 0x1E 144 two)) (fun t => t.lines.current.cells = []) = true ∧
     leads (exec (.tab .keyboard) { composing .line 0x09 144 two with settings := { (composing .line 0x09 144 two).settings with
       tabs := [170] } }) (fun t => t.lines.current.cells.length = 5 && t.composer.p = 180) = true) ∧
    leads (exec .clearLine (composing .direct 0x1E 132 [cell 0 0x61 120 12 .printed])) (·.signals.beeper.isSome) = true := by
  decide +kernel

/-- CORRECT over a FETCHED strike makes a LIFT linked to its serial, over a PENDING one withdraws it, over a record links the
record; over nothing it is refused with reason NOTHING (R131 to R136). -/
theorem test_Corrections_premises :
    (let lying := fun (os : List Order) (rs : List StrikeRecord) =>
       let s := withOrders os (composing .direct 0x14 132 [{ cell 0 0x61 120 12 (if os = [] then .printed else .released) with
         outstanding := os.length }])
       { s with correction := { s.correction with memory := rs }, signals := running.signals }
     let strike := striking .strike 0 126 7
     leads (exec .correct (lying [⟨9, true, 0, 3, strike⟩] [])) (fun t =>
       t.dispatch.orders.map (fun o => (o.job.kind, o.job.link)) = [(.strike, none), (.lift, some (.serial 9)), (.move, none)] &&
       t.lines.current.cells.map (·.state) = [.lifting] && t.composer.p = 120) = true ∧
     leads (exec .correct (lying [⟨9, false, 0, 3, strike⟩] [])) (fun t => t.lines.current.cells = [] &&
       t.dispatch.orders.map (·.job.kind) = [.move]) = true ∧
     leads (exec .correct (lying [] [⟨5, 126, some 15, none, some 2, some 7, some .main, some 0, 9, false⟩])) (fun t =>
       t.dispatch.orders.map (·.job.link) = [some (.record 5 9), none] && t.correction.memory.map (·.pending) = [true]) = true ∧
     checkCorrection (lying [⟨9, true, 0, 3, strike⟩] []) [cell 0 0x61 120 12 .released] = none ∧
     selectCorrect .direct (lying [⟨9, true, 0, 3, strike⟩] []) =
       [{ cell 0 0x61 120 12 .released with outstanding := 1 }]) ∧
    leads (exec .correct (composing .direct 0x14 120 [])) (fun t => t.notices.keyboard.pending = [⟨.cannotLift, 1, [0, 63]⟩]) =
      true ∧
    checkCorrection running [{ cell 0 0x61 120 12 .printed with fixed := true }] = some (1, 63) ∧
    leads (exec .wordCorrect (composing .line 0x15 132 [cell 0 0x61 120 12 .held])) (·.lines.current.cells = []) = true ∧
    leads (exec .lineCorrect (composing .line 0x16 132 [cell 0 0x61 120 12 .held]))
      (·.notices.keyboard.pending = [⟨.cannotLift, 1, [0, 63]⟩]) = true := by
  decide +kernel

/-- A word wrapped at release (worked sequence of 04_composition_and_the_line_store.md): the RETURN, then the word placed from
L, its issue cell by cell, and the closing MOVE. -/
theorem test_GroupsAndLines_premises :
    (let word := fun x : Nat => [cell 0 0x77 x 12 .held, cell 1 0x6F (x + 12) 12 .held, cell 2 0x20 (x + 24) 12 .held]
     let grouped := fun (x : Nat) => { holding .keyboard .word (word x) (typing .word []) with composer :=
       { running.composer with p := x + 36, closedGroups := [[0, 1, 2]], nextCell := 3 } }
     let issuing := fun (ids : List Nat) => { grouped 120 with composer :=
       { (grouped 120).composer with closedGroups := [], issue := some ⟨ids, 0, .keyboard⟩ } }
     (grouped 120).lines.current.composition = some .word ∧ mountedTable (grouped 120) = some wheel7 ∧
     wraps wheel7 (grouped 876) (word 876) = false ∧ wraps wheel7 (grouped 877) (word 877) = true ∧
     leads (exec .wordGroupRelease (grouped 120)) (fun t => t.composer.issue = some ⟨[0, 1, 2], 0, .keyboard⟩) = true ∧
     leads (exec .wordWrap (grouped 120)) (· = grouped 120) = true ∧
     leads (exec .wordGroupRelease (grouped 877)) (· = grouped 877) = true ∧
     leads (exec .wordWrap (grouped 877)) (fun t => t.lines.current.cells.map (·.start) = [120, 132, 144] &&
       t.composer.p = 156 && t.dispatch.orders.map (·.job.kind) = [.init, .ret] && t.composer.issue.isSome) = true ∧
     leads (exec .groupCellIssue (issuing [0, 1, 2])) (fun t => t.lines.current.cells.map (·.state) =
       [.released, .held, .held] && t.dispatch.orders.map (·.job.target) = [120, 126]) = true ∧
     leads (exec .groupCellIssue (issuing [2])) (fun t => t.composer.issue = none &&
       t.dispatch.orders.map (·.job.kind) = [.init, .move]) = true ∧
     leads (exec .groupCellIssue (issuing [])) (fun t => t.composer.issue = none) = true ∧
     finishIssue (issuing [1]) = issuing [1]) ∧
    (let s := { typing .line [] with
       lines := { running.lines with outgoing := some ⟨[cell 0 0x61 120 12 .held], .left, some .line, 120, .releasing, none⟩ }
       composer := { running.composer with release := some ⟨0, .keyboard⟩ } }
     leads (exec .lineCellIssue s) (fun t => t.lines.outgoing.any (·.state = .printing) && t.composer.release = none &&
       t.dispatch.orders.map (·.job.kind) = [.init, .strike, .ret]) = true) := by decide +kernel

/-- Printable codes, a TAB in LINE composition and issues wait under NO TABLE (R12). -/
theorem test_NoTable_premises :
    (let bare := fun s : State => { s with wheels := State.reset.wheels }
     let waits := fun (c : Instr) (s : State) => mountedTable (bare s) = none ∧ leads (exec c (bare s)) (· = bare s) = true
     let issuing := { composing .word 0x61 132 [cell 0 0x61 120 12 .held] with composer :=
       { running.composer with issue := some ⟨[0], 0, .keyboard⟩ } }
     waits (.composePrintable .keyboard) (composing .direct 0x61 120 []) ∧
     waits (.composePrintable .keyboard) (composing .word 0x61 120 []) ∧
     waits (.composePrintable .keyboard) (composing .line 0x61 120 []) ∧
     waits (.tab .keyboard) (composing .line 0x09 132 [cell 0 0x61 120 12 .held]) ∧
     waits .groupCellIssue issuing ∧
     (let held := { issuing with correction := { issuing.correction with held := [Job.plain .move 120 .keyboard none] } }
      leads (exec .groupCellIssue held) (· = held) = true)) := by decide +kernel

/-- Flushing functions wait while a group without held cells is being issued; a BACKSPACE does not (R73, R74, R76). -/
theorem test_FunctionsDuringAnIssue_premises :
    (let issuing := fun (code : Code) (p : Nat) => let s := composing .word code p [cell 0 0x61 120 12 .released]
       { s with composer := { s.composer with issue := some ⟨[], 0, .keyboard⟩ } }
     [(Instr.carriageReturn .keyboard, (0x0D : Code)), (.tab .keyboard, 0x09), (.relocate, 0x17), (.index .keyboard, 0x0A),
       (.reverseIndex .keyboard, 0x0B), (.halfUp .keyboard, 0x0E), (.halfDown .keyboard, 0x0F)].all (fun x =>
         leads (exec x.1 (issuing x.2 132)) (· = issuing x.2 132)) = true ∧
     leads (exec (.backspace .keyboard) (issuing 0x08 132)) (fun t => t.composer.p = 120 && t.streams.typeAhead = []) = true ∧
     leads (exec (.backspace .keyboard) (issuing 0x08 0)) (fun t => t.composer.p = 0 && t.streams.typeAhead = [] &&
       t.dispatch.orders = (issuing 0x08 0).dispatch.orders) = true) ∧
    (let s := { wording .available 8 [0x61, 0x62] with
       streams := { running.streams with holder := some .keyboard, typeAhead := [0x08] } }
     let s := { s with
       lines := { s.lines with current := { s.lines.current with
         composition := some .word, cells := s.lines.current.cells.map fun c => { c with state := .released } } }
       composer := { s.composer with p := 144 }
       spelling := { s.spelling with openWord := [0, 1] } }
     compositionFor s .keyboard = .word ∧ endWord .word (takeHead .keyboard s) = none ∧
     leads (exec (.backspace .keyboard) s) (· = s) = true) := by decide +kernel

/-- A BACKSPACE of the last HELD cell opens the group again that it closed, and cancels its word's ticket (R76, R159). -/
theorem test_BackspaceOfAGroup_premises :
    (let s := misspelt .known .held
     let s := { s with
       lines := { s.lines with current := { s.lines.current with composition := some .word } }
       streams := { s.streams with typeAhead := [0x08] }
       composer := { s.composer with closedGroups := [[0, 1]], p := 144 } }
     Admits .keyboard 0x08 s ∧ compositionFor s .keyboard = .word ∧
     leads (exec (.backspace .keyboard) s) (fun t => t.composer.p = 132 && t.composer.openGroup = [0] &&
       t.composer.closedGroups = [] && t.lines.current.cells.map (fun c => (c.id, c.ticket)) = [(0, none)]) = true) := by
  decide +kernel

/-- A RETURN captures the open runs, the one at the cursor included, up to the first capture not made (R145). -/
theorem test_CapturedLines_premises :
    (let s := fun (queue : Nat) => let s := wording .available queue [0x61, 0x62, 0x20, 0x63, 0x64]
       { s with lines := { s.lines with current := { s.lines.current with composition := some .line } }
                composer := { s.composer with cursor := 5 } }
     (runsToCapture true (s 0)).map (·.map (·.id)) = [[0, 1], [3, 4]] ∧
     (let v := captureLine (s 0)
      v.lines.current.cells.map (·.mark) = [.checking, .checking, .none, .checking, .checking] ∧ hasOpenRun v = false) ∧
     (let v := captureLine (s 7)
      v.lines.current.cells.map (·.mark) = [.checking, .checking, .none, .none, .none] ∧ hasOpenRun v = true ∧
      captureRun (v.lines.current.cells.drop 3) v = none) ∧
     captureLine (s 8) = s 8 ∧ hasOpenRun (s 8) = true) := by decide +kernel

/-- Cells inserted and removed in a line: a TAB over two columns, a DELETE at the first cell (R77, R78). -/
theorem test_InsertedAndRemovedCells_premises :
    (let s := composing .line 0x09 144 [cell 0 0x61 120 12 .held, cell 1 0x62 132 12 .held]
     let v := insertCells 2 .keyboard 0x20 12 { s with composer := { s.composer with cursor := 1, p := 132, nextCell := 2 } }
     v.lines.current.cells.map (fun c => (c.id, c.code, c.start, c.state)) =
       [(0, 0x61, 120, .held), (2, 0x20, 132, .held), (3, 0x20, 144, .held), (1, 0x62, 156, .held)] ∧
     (v.composer.p, v.composer.cursor, v.composer.nextCell) = (156, 3, 4) ∧
     (removeLineCells [0] 0 s).map (fun v => (v.lines.current.cells.map (fun c => (c.id, c.start)), v.composer.p,
       v.composer.cursor)) = some ([(1, 120)], 120, 0)) := by decide +kernel

/-- A released group loses the cells not on the wheel and those past 1559, each with its notice (R74). -/
theorem test_DroppedCells_premises :
    (let word := [cell 0 0x61 1530 12 .held, { cell 1 0x7F 1542 12 .held with ticket := some 40 }, cell 2 0x61 1542 12 .held,
       cell 3 0x61 1554 5 .held]
     let s := holding .keyboard .word word (typing .word [])
     let u := releaseGroup wheel7 1530 [0, 1, 2, 3] [] s
     placeWithin 1548 [cell 0 0x61 0 12 .held, cell 1 0x61 0 11 .held] =
       ([{ cell 1 0x61 0 11 .held with start := 1548 }], [cell 0 0x61 0 12 .held]) ∧
     u.lines.current.cells.map (fun c => (c.id, c.start)) = [(0, 1530), (2, 1542)] ∧ u.composer.p = 1554 ∧
     u.notices.keyboard.pending.map (·.kind) = [.refusedCharacters, .skippedCharacters] ∧
     u.composer.issue = some ⟨[0, 2], 0, .keyboard⟩) := by decide +kernel

/-- A group that loses every cell at its release (R74; notes/assumptions/56.md): the cells behind it, and P, from its start. -/
theorem test_EmptiedGroup_premises :
    (let s := holding .keyboard .word [cell 0 0x7F 300 12 .held, cell 1 0x61 312 12 .held] (typing .word [])
     let u := releaseGroup wheel7 300 [0] [[1]] s
     groupCells u [0] = [] ∧ u.lines.current.cells.map (fun c => (c.id, c.start)) = [(1, 300)] ∧ u.composer.p = 312) := by
  decide +kernel

/-- A wrap waits for the outgoing line, the orders of a correction, a HOME held and a place (R75, R82). -/
theorem test_WrapsThatWait_premises :
    (let word := [cell 0 0x77 877 12 .held, cell 1 0x6F 889 12 .held]
     let s := { holding .keyboard .word word (typing .word []) with composer :=
       { running.composer with p := 901, closedGroups := [[0, 1]], nextCell := 2 } }
     wraps wheel7 s word = true ∧ leads (exec .wordWrap s) (· ≠ s) = true ∧
     [{ s with lines := { s.lines with outgoing := some ⟨[], .left, none, 120, .printing, some 3⟩ } },
       { s with correction := { s.correction with held := [Job.plain .move 120 .keyboard none] } },
       { s with dispatch := { s.dispatch with homeHeld := some 120 } },
       withOrders (List.replicate 32 ⟨9, false, 0, 3, striking .strike 0 300 7⟩) s].all (fun v =>
         leads (exec .wordWrap v) (· = v)) = true) ∧
    (let s := composing .word 0x61 132 [cell 0 0x61 120 12 .released]
     let s := { s with composer := { s.composer with issue := some ⟨[0], 0, .keyboard⟩ } }
     leads (exec .groupCellIssue s) (fun t => t.composer.issue = some ⟨[], 0, .keyboard⟩ && t.dispatch = s.dispatch) = true) ∧
    leads (exec .lineCellIssue running) (· = running) = true := by decide +kernel

/-! ## Witnesses: further clauses -/

/-- A record of the correction memory of a cell. -/
def record (id cell : Nat) (serial : Byte) (pending : Bool) : StrikeRecord :=
  ⟨id, 300, some 15, none, some 2, some 7, some .main, some cell, serial, pending⟩

/-- A LIFT of a cell. -/
def lifting (link : LiftLink) (cell : Nat) : Job := { striking .lift cell 300 7 with link := some link }

/-- A state with a correction memory. -/
def remembering (rs : List StrikeRecord) (s : State) : State := { s with correction := { s.correction with memory := rs } }

/-- Re-resolution, fate by fate: a FETCHED strike, one of a code on the wheel, a SECOND of a code no longer COMPOSITE, one of a
code not on the wheel; a LIFTING cell of each ending. -/
theorem test_FatesOfStrikes_premises :
    (let order := fun (role : Role) (cell : Nat) => (⟨5, false, 0, 3, { striking .strike cell 300 7 with role := some role }⟩ : Order)
     let s := holding .keyboard .direct [cell 0 0x61 300 10 .released, cell 1 0x7F 310 10 .released, cell 2 0xE9 320 10 .released]
       running
     [{ order .main 1 with fetched := true }, order .main 0, order .second 0, order .main 1, order .second 2].map
         (fun o => match strikeFate wheel7 s o with
           | .kept _ => 0
           | .lost => 1
           | .skipped => 2) = [0, 0, 1, 2, 0]) ∧
    (let lost := fun (more : State → State) => reResolve (more (withOrders [⟨5, false, 0, 3, striking .strike 0 300 7⟩]
       (holding .keyboard .direct [{ cell 0 0x7F 295 10 .lifting with outstanding := 1 }] running)))
     (lost id).lines.current.cells = [] ∧
     ((lost (remembering [record 0 0 9 false])).lines.current.cells.map (·.state)) = [.printed] ∧
     ((lost fun s => withOrders (s.dispatch.orders ++ [⟨6, true, 0, 3, lifting (.record 0 9) 0⟩]) s).lines.current.cells.map
       fun c => (c.state, c.outstanding, c.notOnWheel)) = [(.lifting, 0, true)]) := by decide +kernel

/-- The pitch in effect and the widths at each pitch; the class at each impression. -/
theorem test_PitchAndWidths_premises :
    (let at_ := fun (p : Pitch) (s : State) => effectivePitch { s with settings := { s.settings with pitch := p } }
     [at_ .p12 running, at_ .ps running, at_ .ps State.reset] = [.p12, .ps, .ps]) ∧
    ([Pitch.p10, .p12, .p15, .ps].map fun p => [wheel7.width p 0x61, wheel7.width p 0x20, wheel7.width p 0x5E]) =
      [[12, 12, 0], [10, 10, 0], [8, 8, 0], [10, 6, 0]] ∧
    ([Impression.normal, .light, .heavy].map fun i => [1, 2, 4].map (adjustedClass i)) = [[1, 2, 4], [1, 1, 3], [2, 3, 4]] := by
  decide +kernel

/-- The 241st record drops the oldest; a LIFT's record removed; the three ends of a LIFTING cell. -/
theorem test_RecordsAndLiftingCells_premises :
    (let full := remembering ((List.range 240).map fun n => record n n (byte n) false)
       (holding .keyboard .direct [cell 0 0x61 300 10 .printed] running)
     let t := makeRecord ⟨250, true, 0, 3, striking .strike 1 300 7⟩ full
     full.correction.memory.length = 240 ∧ t.correction.memory.length = 240 ∧ t.correction.memory.head?.map (·.id) = some 1 ∧
     t.correction.memory.getLast?.map (·.serial) = some 250 ∧ t.lines.current.cells.map (·.fixed) = [true]) ∧
    ((removeRecord (lifting (.record 0 9) 0) (remembering [record 0 0 9 true, record 1 0 8 false] running)).correction.memory.map
      (·.id)) = [1] ∧
    (let s := holding .keyboard .direct [cell 0 0x61 300 10 .lifting] running
     findCell s 0 = some (cell 0 0x61 300 10 .lifting) ∧ (judgeLifting 0 s).lines.current.cells = [] ∧
     (judgeLifting 0 (remembering [record 0 0 9 false] s)).lines.current.cells.map (·.state) = [.printed] ∧
     judgeLifting 0 (withOrders [⟨6, true, 0, 3, lifting (.record 0 9) 0⟩] s) =
       withOrders [⟨6, true, 0, 3, lifting (.record 0 9) 0⟩] s) := by decide +kernel

/-- A FEED clears the memory: cells FIXED, a PENDING LIFT of a record removed and a FETCHED one kept, a LIFTING cell without a
LIFT left; the outgoing line goes with its RETURN. -/
theorem test_ClearedMemory_premises :
    (let s := remembering [record 0 0 9 true, record 1 1 8 true] (withOrders [⟨5, true, 0, 3, lifting (.record 0 9) 0⟩,
         ⟨6, false, 0, 3, lifting (.record 1 8) 1⟩]
       (holding .keyboard .direct [cell 0 0x61 300 10 .lifting, cell 1 0x62 310 10 .lifting] running))
     (clearMemory s).correction.memory = [] ∧ (clearMemory s).dispatch.orders.map (·.serial) = [5] ∧
     (clearMemory s).lines.current.cells.map (fun c => (c.state, c.fixed)) = [(.lifting, true), (.printed, true)] ∧
     (clearMemory s).notices.keyboard.pending = [⟨.cannotLift, 1, [1, 63]⟩] ∧
     (clearMemory running).notices = running.notices) ∧
    (let ret : Order := ⟨7, true, 0, 3, Job.plain .ret 120 .keyboard (some 2)⟩
     let s := { running with lines := { running.lines with
       outgoing := some ⟨[cell 0 0x61 120 12 .printed], .left, some .direct, 120, .printing, some 7⟩ } }
     (dropOutgoing ret s).lines.outgoing = none ∧ dropOutgoing { ret with serial := 8 } s = s ∧
     dropOutgoing ret running = running) := by decide +kernel

/-- A halted dispatcher with a group issue, a line release, or an outgoing line whose RETURN is in the queue. -/
def halted (s : State) : State := { s with dispatch := { s.dispatch with state := .halted } }

/-- An outgoing line of one cell. -/
def outgoing (state : CellState) (serial : Option Byte) (s : State) : State :=
  { s with lines := { s.lines with outgoing := some ⟨[cell 9 0x61 120 12 state], .left, some .line, 120,
    if serial = none then .releasing else .printing, serial⟩ } }

/-- DISCARD ends a group issue with its SKIPPED CHARACTERS, and a line release with its RETURN. -/
theorem test_DiscardEndsReleases_premises :
    (let s := halted (holding .keyboard .word [cell 0 0x61 120 12 .held, cell 1 0x61 132 12 .held] running)
     let s := { withOrders [] s with
       dispatch := { (withOrders [] s).dispatch with c := 700 }
       composer := { s.composer with p := 144, nextCell := 10, issue := some ⟨[0], 2, .keyboard⟩ } }
     SerialsOk s ∧ leads (exec (.discard .keyboard []) s) (fun t => t.composer.issue = none &&
       t.lines.current.cells.map (fun c => (c.id, c.start)) = [(1, 700)] && t.composer.p = 712 &&
       t.dispatch.orders.map (·.job.kind) = [.init] &&
       t.notices.keyboard.pending = [⟨.skippedCharacters, 1, [2]⟩]) = true) ∧
    (let s := outgoing .held none (halted (withOrders [] running))
     let s := { s with composer := { s.composer with nextCell := 10, release := some ⟨1, .interface⟩ } }
     SerialsOk s ∧ leads (exec (.discard .keyboard []) s) (fun t => t.composer.release = none &&
       t.lines.outgoing.any (fun l => l.state = .printing && l.cells = []) &&
       t.dispatch.orders.map (fun o => (o.job.kind, o.job.target, o.job.feed, o.job.source)) =
         [(.init, 0, none, .automatic), (.ret, 120, some 2, .interface)] &&
       t.notices.keyboard.pending = [⟨.skippedCharacters, 1, [1]⟩]) = true) := by decide +kernel

/-- DISCARD makes the RETURN of a printing line again; P stays in LINE composition; cells lose their strikes. -/
theorem test_DiscardKeepsTheLine_premises :
    (let s := outgoing .printed (some 7) (halted (holding .interface .line [cell 0 0x61 120 12 .held] running))
     let s := { withOrders [⟨7, false, 0, 3, Job.plain .ret 300 .interface (some 4)⟩] s with
       composer := { s.composer with p := 132, cursor := 1, nextCell := 10 } }
     leads (exec (.discard .keyboard []) s) (fun t => t.composer.p = 132 && t.composer.cursor = 1 &&
       t.dispatch.orders.map (fun o => (o.job.kind, o.job.target, o.job.feed, o.job.source)) =
         [(.init, 0, none, .automatic), (.ret, 120, some 4, .interface)] &&
       t.lines.outgoing.bind (·.returnSerial) = t.dispatch.orders.getLast?.map (·.serial))) = true ∧
    (let s := halted (withOrders [⟨7, true, 0, 3, striking .strike 0 300 7⟩, ⟨8, false, 0, 3, striking .strike 1 300 7⟩]
       (holding .keyboard .direct [{ cell 0 0x61 295 10 .released with outstanding := 1 },
         { cell 1 0x61 305 10 .released with outstanding := 1 }, cell 2 0x61 315 10 .printed] running))
     leads (exec (.discard .keyboard []) (remembering [record 0 0 9 true] s)) (fun t => t.composer.p = 0 &&
       t.lines.current.cells.map (fun c => (c.id, c.state, c.outstanding)) = [(0, .printed, 0), (2, .printed, 0)] &&
       t.correction.memory.map (·.pending) = [false])) = true := by decide +kernel

/-- FAILED returns an order with a cost that a lowered capacity can hold. -/
theorem test_ReturnedCost_premises :
    leads (exec (.orderDone .mechanism [9, 1, 0]) (withOrders [⟨9, true, 0, 30, striking .strike 0 300 7⟩]
      { running with energy := { running.energy with level := 0, capacity := 16 } }))
      (fun t => t.dispatch.orders.map (fun o => (o.fetched, o.cost)) = [(false, 16)]) = true := by decide +kernel

/-- Case patterns; a rule and its inversion; ticket numbers in use. -/
theorem test_SkipRulesAndTickets_premises :
    ([CasePattern.any, .allCapitals, .initialCapital, .mixed].map fun p =>
      ([[0x41, 0x42], [0x41, 0x62], [0x61, 0x42], [0x61, 0x27]].map fun w => hasPattern running w p)) =
      [[true, true, true, true], [true, false, false, false], [false, true, false, false], [false, false, true, false]] ∧
    (let with_ := fun r : SkipRule => { running with spelling := { running.spelling with skipRules := [r] } }
     [isSkipped (with_ ⟨true, 2, 2, .any, false⟩) [0x61, 0x62], isSkipped (with_ ⟨true, 2, 2, .any, false⟩) [0x61, 0x62, 0x63],
       isSkipped (with_ ⟨true, 2, 2, .any, true⟩) [0x61, 0x62], isSkipped (with_ ⟨true, 2, 2, .any, true⟩) [0x61, 0x62, 0x63],
       isSkipped (with_ ⟨false, 2, 2, .any, false⟩) [0x61, 0x62]]) = [true, false, false, true, false] ∧
    (let s := { misspelt .checking .held with spelling := { (misspelt .checking .held).spelling with ticketCounter := 40 } }
     ticketInUse s 40 = true ∧ ticketInUse s 41 = false ∧ nextTicket s = 41) := by decide +kernel

/-- What a capture leaves: the marks, the ticket, the queue's length and the overflow count. -/
def captured (m : Mode) (s : State) : Option (List SpellMark × Option Byte × Nat × Nat) :=
  (capture [0, 1] m s).map fun t => (t.lines.current.cells.map (·.mark), (t.lines.current.cells.head?.bind (·.ticket)),
    t.spelling.queue.length, t.spelling.overflow)

/-- The capture of a word: skipped, KNOWN, UNCHECKED, CHECKING, and with a full queue. -/
theorem test_Capture_premises :
    [captured .word (wording .available 0 [0x41, 0x42]), captured .word (wording .available 7 [0x61, 0x62]),
      captured .word (wording .off 0 [0x61, 0x62]), captured .direct (wording .readingHeader 8 [0x61, 0x62]),
      captured .word (wording .available 8 [0x61, 0x62]),
      captured .word { wording .available 8 [0x61, 0x62] with spelling := { (wording .available 8 [0x61, 0x62]).spelling with
        userWords := [[0x61, 0x62]] } }] =
    [some ([.skipped, .skipped], none, 0, 255), some ([.checking, .checking], some 0, 8, 255),
      some ([.unchecked, .unchecked], some 0, 0, 255), some ([.unchecked, .unchecked], some 0, 8, 255), none,
      some ([.known, .known], some 0, 8, 255)] := by decide +kernel

/-- Words with an APOSTROPHE of another code (R147, R150). -/
theorem test_SpellAnswers_folded_words :
    (let s := { running with wheels := { running.wheels with classes := running.wheels.classes.set 0x23 ⟨.apostrophe, 0x23⟩ } }
     leads (exec (.addWord .keyboard [0x41, 0x23, 0x62]) s) (·.spelling.userWords = [[0x61, 0x27, 0x62]]) = true ∧
     answers (exec (.addWord .keyboard [0x41, 0x23, 0x27, 0x62]) s) .keyboard .badValue = true) := by decide +kernel

/-- A ticket cancelled WAITING and LOOKING UP; cells removed, made LIFTING, split by a code that ends a run. -/
theorem test_CancelledTickets_premises :
    (let queued := fun (looking : Bool) (st : CellState) => { misspelt .checking st with spelling :=
       { (misspelt .checking st).spelling with queue := [⟨40, looking⟩] } }
     (cancelTicket 40 (queued true .spellHold)).lines.current.cells.map (fun c => (c.ticket, c.mark, c.state)) =
       [(none, .none, .held), (none, .none, .held)] ∧
     ticketRecord (cancelTicket 40 (queued true .held)) 40 = some ⟨40, [0x74, 0x65], .keyboard, true⟩ ∧
     ticketRecord (cancelTicket 40 (queued false .held)) 40 = none ∧
     (cancelTicket 40 (queued false .held)).spelling.queue = []) ∧
    ((dropCells [0] (misspelt .known .held)).lines.current.cells.map fun c => (c.id, c.ticket)) = [(1, none)] ∧
    (let s := withOrders [⟨5, true, 0, 3, striking .strike 0 126 7⟩] (misspelt .known .released)
     let targets := s.lines.current.cells.take 1
     (targets.all fun c => cellLifts s c ≠ []) = true ∧
     ((withdrawStrikes targets s).lines.current.cells.map fun c => (c.state, c.ticket)) =
       [(.lifting, none), (.released, none)]) ∧
    (let s := misspelt .known .held
     let classed := fun (k : CharClass) => { s with wheels := { s.wheels with classes := s.wheels.classes.set 0x65 ⟨k, 0x65⟩ } }
     ((cancelBroken (classed .letter)).lines.current.cells.map (·.ticket)) = [some 40, some 40] ∧
     ((cancelBroken (classed .punct)).lines.current.cells.map (·.ticket)) = [none, none]) := by decide +kernel

/-- The open word after a removal, and a cancelled word that becomes the open word again (R160). -/
theorem test_Recapture_premises :
    (let s := holding .keyboard .word [cell 0 0x27 120 12 .held, cell 1 0x61 132 12 .held, cell 2 0x27 144 12 .held] running
     (recapture s [0, 1, 2]).spelling.openWord = [1] ∧ (recapture s [0, 1, 2]).spelling.pendingApos = some 2 ∧
     recapture s [0, 1] = s ∧ recapture { s with lines := { s.lines with current := { s.lines.current with
       composition := some .line } } } [0, 1, 2] = { s with lines := { s.lines with current := { s.lines.current with
         composition := some .line } } }) ∧
    (let s := holding .keyboard .word [cell 0 0x63 120 12 .held, cell 1 0x61 132 12 .held, cell 2 0x74 144 12 .held] running
     let s := { s with wheels := { s.wheels with classes := s.wheels.classes.set 0x61 ⟨.digit, 0x61⟩ } }
     let open_ := { s with spelling := { s.spelling with openWord := [0, 1, 2] } }
     classOf s 0x61 = .digit ∧ [(recapture s [0, 1, 2]).spelling.openWord, (dropCells [2] open_).spelling.openWord,
       (dropCells [1, 2] open_).spelling.openWord, (dropCells [0, 2] open_).spelling.openWord] = [[0, 1, 2], [0, 1], [0], []] ∧
     (dropCells [2] open_).spelling.pendingApos = none) ∧
    (let s := holding .keyboard .direct [cell 0 0x61 120 12 .lifting, cell 1 0x62 132 12 .released] running
     (pruneOpenWord { s with spelling := { s.spelling with openWord := [0, 1, 7], pendingApos := some 8 } }).spelling.openWord =
       [1] ∧ pruneOpenWord { s with spelling := { s.spelling with openWord := [1] } } =
         { s with spelling := { s.spelling with openWord := [1] } }) := by decide +kernel

/-- An outcome under each policy; entry into UNAVAILABLE; a discarded lookup. -/
theorem test_Outcomes_premises :
    (let under := fun (p : UnknownPolicy) (words : List (List Code)) => applyOutcome 40 .unknown { misspelt .checking .held with
       spelling := { (misspelt .checking .held).spelling with kbUnknown := p, userWords := words, queue := [⟨40, true⟩] } }
     let seen := fun t : State => (t.lines.current.cells.map fun c => (c.mark, c.state), t.signals.beeper.isSome,
       t.notices.keyboard.pending.length)
     ticketRecord (misspelt .checking .held) 40 = some ⟨40, [0x74, 0x65], .keyboard, false⟩ ∧
     [seen (under .hold []), seen (under .signal []), seen (under .ignore []), seen (under .hold [[0x74, 0x65]])] =
       [([(.unknown, .spellHold), (.unknown, .spellHold)], true, 1), ([(.unknown, .held), (.unknown, .held)], true, 1),
         ([(.unknown, .held), (.unknown, .held)], false, 0), ([(.known, .held), (.known, .held)], false, 0)] ∧
     (under .signal []).notices.keyboard.pending = [⟨.unknownWord, 1, [40, 2]⟩]) ∧
    (let s := fun looking : Bool => { misspelt .checking .held with spelling := { (misspelt .checking .held).spelling with
       queue := [⟨40, looking⟩] } }
     ((s false).spelling.queue.map (·.ticket)).Nodup ∧
     (unavailable 1 (s false)).lines.current.cells.map (·.mark) = [.unchecked, .unchecked] ∧
     (unavailable 1 (s true)).spelling.queue = [⟨40, true⟩] ∧
     (uncheck [40] (s true)).spelling.queue = [] ∧ (lookupDropped 40 (s true)).spelling.queue = [⟨40, false⟩] ∧
     lookupDropped 41 (s true) = s true ∧
     (lookupDropped 40 { s true with spelling := { (s true).spelling with
       tickets := [⟨40, [0x74, 0x65], .keyboard, true⟩] } }).spelling.queue = []) := by decide +kernel

/-- The frame of a message; the window on either side of the cursor; a shown code and a blinking column; the segments. -/
theorem test_FrameContent_premises :
    (let s := { running with display := { running.display with ifSlot := some ⟨[0x41, 0x42], 0, 0⟩, ws := 9 } }
     snapshotWindow s = 9 ∧ (snapshotBytes s).take 5 = [0x1F, 0xFF, 0x41, 0x42, 0x20] ∧
     ((snapshotBytes s).drop 34).take 4 = [0, 0, 0, 0]) ∧
    (let line := fun (n ws p : Nat) => { holding .keyboard .direct
         ((List.range n).map fun i => { cell i (byte (0x41 + i)) (2 * i) 2 .released with mark := if i = 8 then .unknown else .none })
         running with
       composer := { running.composer with p := p }, display := { running.display with ws := ws } }
     [snapshotWindow (line 40 20 80), snapshotWindow (line 40 3 80), snapshotWindow (line 40 13 80), snapshotWindow (line 40 20 8),
       snapshotWindow (line 40 0 0)] = [20, 13, 13, 0, 0] ∧
     ((snapshotBytes (line 40 6 60)).take 4) = [0x1F, 24, 0x47, 0x48] ∧
     (((snapshotBytes (line 40 6 60)).drop 34).take 4) = [0x20, 0, 0, 0] ∧
     ((snapshotBytes (line 1 0 2)).drop 2).take 2 = [0x41, 0x20] ∧
     (snapshotBytes (line 40 6 60)).drop 38 = [0x80, 0x20]) := by decide +kernel

/-- Columns of an overlay cell over two column cells, of one that stands alone, and two of one start (R167). -/
theorem test_ColumnsOfEqualStart_premises :
    ((columns [cell 0 0x61 120 12 .released, cell 1 0x62 132 12 .released, { cell 2 0x63 126 12 .released with overstrike := true },
        cell 3 0x5E 300 0 .released, cell 4 0x64 120 12 .released]).map fun x => (x.start, x.key, x.group.map (·.id))) =
      [(120, 0, [0, 2]), (120, 4, [4]), (132, 1, [1]), (300, 3, [3])] := by decide +kernel

/-- The payload of the answer to a GET of an item. -/
def item (payload : List Byte) (s : State) : Status × List Byte :=
  match exec (.get .keyboard payload) s with
  | .next t => ((statusOn t .keyboard).getD .empty, payloadOn t .keyboard)
  | _ => (.empty, [])

/-- GET, item by item, with indexes at the ends of their ranges. -/
theorem test_Items_premises :
    Ready .get .keyboard [0, 0x41] running ∧
    ([[0, 0x41], [1, 0], [1, 1], [1, 4], [2, 1, 0x20], [2, 0, 0x1F], [8], [10], [11, 3], [11, 4], [12, 0], [12, 128], [13, 1],
       [13, 2], [14, 0], [16, 1], [16, 15], [16, 18], [17], [9, 0]].map fun p => item p running) =
      [(.ok, [2, 0x61]), (.ok, [2, 7, 3, 60, 3]), (.ok, [0, 0xFF, 0xFF, 0xFF, 0xFF]), (.badValue, []), (.none_, []),
        (.badValue, []), (.ok, [0]), (.ok, [20, 7, 208, 0]), (.ok, [3, 0, 31, 0, 1, 24, 0, 0]), (.badValue, []), (.none_, []),
        (.badValue, []), (.ok, [0, 255, 255, 0, 0, 0]), (.badValue, []), (.ok, [0, 0, 0, 0, 0, 0, 1, 1, 0, 0]),
        (.ok, [1, 0, 3, 5, 9, 9, 9]), (.ok, [15, 0, 3, 0xFF, 13, 13, 13]), (.badValue, []), (.badValue, []),
        (.badRequest, [])] := by decide +kernel

/-- An entry, a user word and the lamps; a cell record; the status record. -/
theorem test_RecordsOfTheState_premises :
    ((item [2, 0, 0xE9] running).2.head? = some 41 ∧ (item [2, 0, 0xE9] running).2.getLast? = some 88 ∧
     item [12, 0] { running with spelling := { running.spelling with userWords := [[0x61, 0x62]] } } = (.ok, [2, 0x61, 0x62])) ∧
    ((cellRecord { cell 0 0x61 300 10 .released with outstanding := 2, ticket := some 40, mark := .known }).take 5 =
      [0x61, 1, 44, 10, 0] ∧
     (cellRecord { cell 0 0x61 300 10 .released with ticket := some 40 })[7]? = some 40) ∧
    (statusRecord running .keyboard).length = 32 ∧ (statusRecord running .keyboard).head? = some 0 := by decide +kernel

/-- The refusals of WORD and LINE composition at their limits (R66, R72). -/
theorem test_WordAndLineRefusals_premises :
    (let word := fun (p : Nat) (release auto : Bool) =>
       let s := composing .word 0x61 p []
       refusal wheel7 .word 0x61 { s with
         composer := { s.composer with marginRelease := release }, settings := { s.settings with autoReturn := auto } }
     [word 1548 true true, word 1547 true true, word 889 false false, word 888 false false, word 1129 false true,
       word 1128 false true] = [some 5, none, some 6, none, some 7, none]) ∧
    (let line := fun (w right : Nat) =>
       let s := holding .keyboard .line [cell 0 0x61 120 w .held] running
       refusal wheel7 .line 0x61 { s with settings := { s.settings with right := right } }
     [line 1009 900, line 1008 900, line 1428 1400, line 1427 1400] = [some 7, none, some 7, none]) := by decide +kernel

/-- What noteCell leaves of a typed cell: a letter joins the open word, a SPACE ends it and it is CHECKING, in DIRECT and in WORD composition, the
WORD cell underlined and over another. -/
theorem test_TypedWords_premises :
    (let word := [cell 0 0x61 120 12 .printed, cell 1 0x62 132 12 .printed]
     let spelling := fun s : State => { s with spelling := { s.spelling with openWord := [0, 1] } }
     let marks := fun t : State => t.lines.current.cells.map (·.mark)
     leads (exec (.composePrintable .keyboard) (spelling (composing .direct 0x61 144 word))) (fun t =>
       t.spelling.openWord = [0, 1, 2] && marks t = [.none, .none, .none]) = true ∧
     leads (exec (.composePrintable .keyboard) (spelling (composing .direct 0x20 144 word))) (fun t =>
       t.spelling.openWord = [] && marks t = [.checking, .checking, .none] && t.composer.nextCell = 3) = true ∧
     (let s := spelling (composing .word 0x20 126 word)
      let s := { s with composer := { s.composer with kbAttr := { s.composer.kbAttr with underline := true } } }
      leads (exec (.composePrintable .keyboard) s) (fun t => t.spelling.openWord = [] &&
        marks t = [.checking, .checking, .none] &&
        t.lines.current.cells.map (fun c => (c.underline, c.overstrike)) = [(false, false), (false, false), (true, true)]) =
        true)) := by decide +kernel

/-- The bell of the hot zone, a SPACE that merges into a tail MOVE, one without a place. -/
theorem test_BellAndSpaces_premises :
    leads (exec (.composePrintable .keyboard) (composing .direct 0x61 816 []))
      (fun t => t.composer.bellRung && t.signals.beeper.isSome) = true ∧
    leads (exec (.composePrintable .keyboard) (composing .direct 0x61 815 [])) (fun t => !t.composer.bellRung) = true ∧
    (let move : Order := ⟨9, false, 0, 0, Job.plain .move 120 .keyboard none⟩
     let full := fun last : Order => withOrders (List.replicate 31 ⟨8, false, 0, 3, striking .strike 0 300 7⟩ ++ [last])
       (composing .direct 0x20 120 [])
     tailIsMove (full move) = true ∧ leads (exec (.composePrintable .keyboard) (full move)) (fun t =>
       t.composer.p = 132 && t.dispatch.orders.length = 32 && t.dispatch.orders.getLast?.map (·.job.target) = some 132) = true ∧
     leads (exec (.composePrintable .keyboard) (full { move with fetched := true })) (· = full { move with fetched := true }) =
       true) := by decide +kernel

/-- A SPACE in the hot zone is a RETURN (R71): with 30 orders the due HOME follows it, with 31 it is held (R107); the new line
begins with the layout setting and the L snapshot L (R59, R63). -/
theorem test_SpaceAsReturn_premises :
    (let s := fun n : Nat =>
       let u := withOrders (List.replicate n ⟨9, false, 0, 3, striking .strike 0 300 7⟩)
         (composing .direct 0x20 828 [cell 0 0x61 816 12 .printed])
       { u with
         dispatch := { u.dispatch with homeDue := true }
         settings := { u.settings with layout := .justify, left := 200 }
         composer := { u.composer with marginRelease := true, bellRung := true } }
     let seen := fun n : Nat => leads (exec (.composePrintable .keyboard) (s n))
     Admits .keyboard 0x20 (s 30) ∧ compositionFor (s 30) .keyboard = .direct ∧
     (s 31).lines.outgoing = none ∧ (s 31).dispatch.homeHeld = none ∧ (s 30).settings.left ≤ 1559 ∧
     endWord .direct (takeHead .keyboard (s 30)) ≠ none ∧
     seen 30 (fun t => t.dispatch.orders.length = 32 && t.dispatch.orders.getLast?.map (·.job.kind) = some .home &&
       t.dispatch.homeDue = false && t.dispatch.homeHeld = none && t.composer.p = 200 &&
       t.lines.current = ⟨[], .justify, none, 200, .composing, none⟩ && t.composer.bellRung = false &&
       t.composer.marginRelease = false && t.lines.outgoing.bind (·.returnSerial) = some 1) = true ∧
     seen 31 (fun t => t.dispatch.orders.length = 32 && t.dispatch.homeDue && t.dispatch.homeHeld = some 200) = true ∧
     seen 32 (· = s 32) = true) := by decide +kernel

/-- The rows of the word table (R144): a cell without width, a letter behind a pending apostrophe, a first and a second
apostrophe, an overstruck letter that ends a word. -/
theorem test_OpenWord_premises :
    (let s := { wording .off 0 [0x61, 0x62] with spelling := { (wording .off 0 []).spelling with
       openWord := [0, 1], pendingApos := some 5 } }
     let word := fun t : State => (t.spelling.openWord, t.spelling.pendingApos)
     let note := fun (c : Cell) (u : State) => (noteCell c .word u).map word
     [note (cell 7 0x5E 144 0 .held) s, note (cell 7 0x63 144 12 .held) s, note (cell 7 0x27 144 12 .held) s,
       note (cell 7 0x27 144 12 .held) { s with spelling := { s.spelling with pendingApos := none } },
       note (cell 7 0x27 144 12 .held) { s with spelling := { s.spelling with openWord := [], pendingApos := none } },
       note { cell 7 0x63 144 12 .held with overstrike := true } s,
       note (cell 7 0x20 144 12 .held) { s with spelling := { s.spelling with openWord := [] } }] =
     [some ([0, 1], some 5), some ([0, 1, 5, 7], none), some ([], none), some ([0, 1], some 7), some ([], none),
       some ([], none), some ([], none)]) := by decide +kernel

/-- The runs of a line (R145), with and without the one at the cursor; a captured one is passed over. -/
theorem test_Runs_premises :
    (let cells := ([0x27, 0x61, 0x5E, 0x27, 0x62, 0x27, 0x27, 0x63, 0x20, 0x64] : List Code).mapIdx fun i c =>
       cell i c (120 + 12 * i) (if c = 0x5E then 0 else 12) .held
     let s := { holding .keyboard .line cells running with composer := { running.composer with cursor := 10 } }
     let ids := fun rs : List (List Cell) => rs.map fun r => r.map (·.id)
     (s.lines.current.cells.map (·.id)).Nodup ∧ ids (runs (classOf s) cells) = [[1, 3, 4], [7], [9]] ∧
     ids (runsToCapture false s) = [[1, 3, 4], [7]] ∧ ids (runsToCapture true s) = [[1, 3, 4], [7], [9]]) ∧
    runsToCapture true (misspelt .known .held) = [] ∧
    ((captureRun [cell 0 0x61 120 12 .held] (wording .off 0 [0x61])).map fun t => t.lines.current.cells.map (·.mark)) =
      some [.skipped] := by decide +kernel

/-- The shortfall of a line that cannot be justified, RELOCATE on a line without cells, TAB at its limits in LINE composition. -/
theorem test_LimitsOfLines_premises :
    (layOut 120 900 1140 24 .justify (List.replicate 3 (cell 0 0x61 0 400 .held))).failed.map (·.1) = some 1 ∧
    leads (exec .relocate (composing .direct 0x17 120 [])) (·.signals.beeper = some ⟨.short, 0, 20⟩) = true ∧
    (let line := fun (n : Nat) (w : Nat) (stop : Nat) =>
       let s := composing .line 0x09 0 ((List.range n).map fun i => cell i 0x61 120 w .held)
       { s with composer := { s.composer with p := 120 }, settings := { s.settings with tabs := [stop] } }
     leads (exec (.tab .keyboard) (line 159 2 140)) (·.notices.keyboard.pending = [⟨.refusedCharacters, 1, [4, 1]⟩]) = true ∧
     leads (exec (.tab .keyboard) (line 2 500 140)) (·.notices.keyboard.pending = [⟨.refusedCharacters, 1, [7, 1]⟩]) = true ∧
     leads (exec (.tab .keyboard) (line 2 4 140)) (fun t => t.lines.current.cells.length = 4) = true) := by decide +kernel

/-- RELOCATE in LINE composition: from the start of the line it captures the word there; at the end already it is taken and the
word stays uncaptured, with a full spell queue too, in which the capture is not made. -/
theorem test_RelocateAtTheEnd_premises :
    (let at_ := fun (k queue : Nat) =>
       let s := composing .line 0x17 156 [cell 0 0x61 120 12 .held, cell 1 0x62 132 12 .held, cell 2 0x20 144 12 .held]
       { s with
         composer := { s.composer with cursor := k }
         spelling := { s.spelling with
           dictState := .available, queue := (List.range queue).map fun n => ⟨byte (100 + n), false⟩ } }
     let marks := fun t : State => t.lines.current.cells.map (·.mark)
     leads (exec .relocate (at_ 0 0)) (fun t => t.composer.cursor = 3 && marks t = [.checking, .checking, .none]) = true ∧
     leads (exec .relocate (at_ 0 8)) (· = at_ 0 8) = true ∧
     leads (exec .relocate (at_ 3 0)) (fun t => t.streams.typeAhead = [] && marks t = [.none, .none, .none] &&
       t.composer = (at_ 3 0).composer) = true ∧
     leads (exec .relocate (at_ 3 8)) (fun t => t.streams.typeAhead = [] && marks t = [.none, .none, .none]) = true) := by
  decide +kernel

/-- The targets of the corrections (R127 to R130): the cell typed last among those at P, none behind a SPELL HOLD, the last word
and the spaces before P, the printed line; in LINE composition, the cells before the cursor. -/
theorem test_Targets_premises :
    (let line := [cell 0 0x61 120 12 .printed, cell 1 0x20 132 12 .printed, cell 2 0x62 144 12 .released, cell 3 0x5E 156 0 .printed,
       cell 4 0x63 156 12 .held, cell 5 0x20 168 12 .held]
     let at_ := fun (p : Nat) => { holding .keyboard .direct line running with composer := { running.composer with p := p } }
     let ids := fun cells : List Cell => cells.map (·.id)
     [ids (selectCorrect .direct (at_ 120)), ids (selectCorrect .direct (at_ 121)), ids (selectCorrect .direct (at_ 132)),
       ids (selectCorrect .direct (at_ 156)), ids (selectCorrect .direct (at_ 157)), ids (selectWord .direct (at_ 180)),
       ids (selectWord .direct (at_ 144)), ids (selectWord .direct (at_ 131)), ids (selectLine .direct (at_ 180))] =
     [[], [0], [0], [3], [4], [2, 3, 4, 5], [0, 1], [], [0, 1, 2, 3]] ∧
     (let held := { at_ 180 with lines := { (at_ 180).lines with current := { (at_ 180).lines.current with
        cells := line ++ [cell 6 0x64 180 12 .spellHold] } } }
      [ids (selectCorrect .word held), ids (selectWord .word held)] = [[], []] ∧
      ids (selectCorrect .word (at_ 180)) = [5]) ∧
     (let line := fun k : Nat => { holding .keyboard .line line running with composer := { running.composer with cursor := k } }
      [ids (selectCorrect .line (line 3)), ids (selectWord .line (line 2)), ids (selectWord .line (line 6)),
        ids (selectLine .line (line 6)), ids (selectCorrect .line (line 0))] = [[2], [0, 1], [2, 3, 4, 5], [], []])) := by
  decide +kernel

/-- What struck a cell, and the checks WRONG WHEEL and TAPE END (R131). -/
theorem test_Checks_premises :
    (let c := cell 0 0x61 295 10 .released
     let queue := fun (fetched : Bool) (wheel : Nat) => withOrders [⟨9, fetched, 0, 3, striking .strike 0 300 wheel⟩] running
     let tape := fun s : State => { s with signals := { s.signals with tape := ⟨true, .asserted, none, false⟩ } }
     struckBy (queue true 7) c .main = some (.fetched ⟨9, true, 0, 3, striking .strike 0 300 7⟩) ∧
     struckBy (queue false 7) c .main = some (.pending ⟨9, false, 0, 3, striking .strike 0 300 7⟩) ∧
     struckBy (remembering [record 0 0 9 false] (withOrders [] running)) c .main = some (.standing (record 0 0 9 false)) ∧
     struckBy (remembering [record 0 0 9 true] (withOrders [] running)) c .main = none ∧
     (cellStrikes (queue true 7) c).length = 1 ∧
     [checkCorrection (queue true 12) [c], checkCorrection (queue false 12) [c], checkCorrection (tape (queue true 7)) [c],
       checkCorrection (tape (queue false 7)) [c], checkCorrection (tape (queue true 12)) [c],
       checkCorrection (tape (queue true 12)) [{ c with fixed := true }], checkCorrection running []] =
     [some (2, 12), none, some (3, 63), none, some (2, 12), some (1, 63), some (0, 63)]) := by decide +kernel

/-- When a group wraps (R75), where a released one stands, one that passes 1559, the end of an issue without a place. -/
theorem test_GroupPlaces_premises :
    (let at_ := fun (x : Nat) (codes : List Code) => codes.mapIdx fun i c => cell i c (x + 12 * i) 12 .held
     let s := fun (x : Nat) (codes : List Code) => { holding .keyboard .word (at_ x codes) running with
       composer := { running.composer with p := x + 12 * codes.length, nextCell := codes.length } }
     let wrapped := fun (x : Nat) (codes : List Code) => wraps wheel7 (s x codes) (at_ x codes)
     [wrapped 888 [0x61, 0x20], wrapped 889 [0x61, 0x20], wrapped 120 (List.replicate 66 0x61), wrapped 895 [0x20, 0x20]] =
       [false, true, false, false] ∧
     wraps wheel7 { s 889 [0x61] with settings := { (s 889 [0x61]).settings with autoReturn := false } } (at_ 889 [0x61]) = false ∧
     (let u := releaseGroup wheel7 300 [0, 1] [] (s 120 [0x61, 0x62, 0x63])
      u.lines.current.cells.map (·.start) = [300, 312, 324] ∧ u.composer.p = 336 ∧
      u.composer.issue = some ⟨[0, 1], 0, .keyboard⟩) ∧
     (releaseGroup wheel7 1540 [0] [] (s 1530 [0x61, 0x62])).composer.p = 1559 ∧
     (let full := withOrders (List.replicate 32 ⟨9, false, 0, 3, striking .strike 0 300 7⟩) (s 120 [0x61])
      let full := { full with composer := { full.composer with issue := some ⟨[], 1, .keyboard⟩ } }
      moveFits full = false ∧ finishIssue full = full) ∧
     (let last := { s 120 [0x61] with composer := { (s 120 [0x61]).composer with issue := some ⟨[], 1, .keyboard⟩ } }
      moveFits last = true ∧ (finishIssue last).composer.issue = none ∧
      (finishIssue last).notices.keyboard.pending = [⟨.skippedCharacters, 1, [1]⟩])) := by decide +kernel

/-- The room-low flag goes with STREAM ROOM, at the threshold and not one code before it (R56). -/
theorem test_RoomRegained_premises :
    (let s := fun n : Nat => { running with streams := { running.streams with
       interfaceQ := List.replicate n 0x61, roomLow := true } }
     Admits .interface 0x61 (s 193) ∧
     [193, 194].map (fun n => let t := takeHead .interface (s n)
       (t.streams.interfaceQ.length, t.streams.roomLow, t.notices.interface.pending)) =
       [(192, false, [⟨.streamRoom, 1, [4]⟩]), (193, true, [])]) := by decide +kernel

/-- Order records (R203): a STRIKE of a cell of the current line, a LIFT of a cell of the outgoing line linked to a serial, one
linked to a record, a FEED of -2 without a cell. -/
theorem test_OrderRecords_premises :
    (let s := { holding .keyboard .direct [cell 0 0x61 120 12 .released, cell 1 0x62 132 12 .released] running with
       lines := { (holding .keyboard .direct [cell 0 0x61 120 12 .released, cell 1 0x62 132 12 .released] running).lines with
         outgoing := some ⟨[cell 7 0x63 120 12 .lifting], .left, some .direct, 120, .printing, some 3⟩ } }
     ((allCells s).map (·.id)).Nodup ∧
     [orderRecord s ⟨9, true, 260, 3, { striking .strike 1 300 7 with second := some 88, role := some .second }⟩,
       orderRecord s ⟨10, false, 0, 5, { striking .lift 7 300 7 with link := some (.serial 9) }⟩,
       orderRecord s ⟨11, false, 0, 5, { striking .lift 0 300 7 with link := some (.record 4 8) }⟩,
       orderRecord s ⟨12, false, 0, 0, Job.plain .feed 300 .interface (some (-2))⟩] =
     [[9, 0, 1, 1, 44, 15, 88, 2, 7, 10, 0x80, 1, 4, 3, 0, 1, 0, 1, 0, 0xFF],
       [10, 1, 0, 1, 44, 15, 0xFF, 2, 7, 10, 0x80, 0, 0, 5, 0, 0, 1, 0, 2, 9],
       [11, 1, 0, 1, 44, 15, 0xFF, 2, 7, 10, 0x80, 0, 0, 5, 0, 0, 0, 0, 1, 8],
       [12, 4, 0, 1, 44, 0xFF, 0xFF, 0, 0xFF, 0xFF, 0xFE, 0, 0, 0, 1, 0xFF, 0xFF, 0xFF, 0, 0xFF]]) := by decide +kernel

/-- RESUME on LIFTING cells (R137, R138): one that keeps a LIFT, one that keeps a record, one that keeps nothing; the withdrawn
strikes leave their counts. -/
theorem test_ResumedCells_premises :
    (let strike := fun (n : Nat) (c : Nat) => (⟨byte n, false, 0, 3, striking .strike c 300 7⟩ : Order)
     let lift := fun (n : Nat) (l : LiftLink) (c : Nat) => (⟨byte n, false, 0, 5, lifting l c⟩ : Order)
     let s := halted (remembering [record 0 1 40 false, record 1 2 41 true] (withOrders [strike 9 0, lift 10 (.serial 9) 0,
         strike 11 1, lift 12 (.serial 11) 1, strike 13 2, lift 14 (.serial 13) 2, lift 15 (.record 1 41) 2]
       (holding .keyboard .direct ([0, 1, 2].map fun n => { cell n 0x61 (120 + 12 * n) 12 .lifting with outstanding := 1 })
         running)))
     Ready .resume .keyboard [] s ∧ ((allCells s).map (·.id)).Nodup ∧
     leads (exec (.resume .keyboard []) s) (fun t => t.dispatch.orders.map (·.serial) = [15] &&
       t.lines.current.cells.map (fun c => (c.id, c.state, c.outstanding)) = [(1, .printed, 0), (2, .lifting, 0)]) = true) := by
  decide +kernel

/-- CANCEL LIFTS over waiting orders (R140): the record of a held LIFT stands again, the held MOVE is appended, or merged into a
PENDING MOVE at the tail, and stays while the queue is full; a cell with a FETCHED LIFT stays LIFTING. -/
theorem test_CancelledWaitingOrders_premises :
    (let move := fun x : Nat => Job.plain .move x .keyboard none
     let s := fun os : List Order => { remembering [record 0 0 40 true] (withOrders os (holding .keyboard .direct
       [cell 0 0x61 120 12 .lifting, cell 1 0x62 132 12 .lifting] running)) with
         correction := ⟨[record 0 0 40 true], [lifting (.record 0 40) 0, move 120], none, 1⟩ }
     let seen := fun os : List Order => leads (exec (.cancelLifts .keyboard []) (s os))
     let lift : Order := ⟨9, true, 0, 5, lifting (.serial 8) 1⟩
     let tail : Order := ⟨10, false, 0, 0, move 500⟩
     Ready .cancelLifts .keyboard [] (s [lift]) ∧
     seen [lift] (fun t => payloadOn t .keyboard = [1] && t.correction.memory.map (·.pending) = [false] &&
       t.correction.held = [] && t.dispatch.orders.map (·.job) = [lift.job, move 120] &&
       t.lines.current.cells.map (·.state) = [.printed, .lifting]) = true ∧
     seen [lift, tail] (fun t => t.correction.held = [] && t.dispatch.orders.map (·.job) = [lift.job, move 120]) = true ∧
     seen (List.replicate 32 { tail with job := striking .strike 1 300 7 }) (fun t => t.correction.held = [move 120] &&
       t.dispatch.orders.length = 32 && t.correction.memory.map (·.pending) = [false]) = true) := by decide +kernel

/-- A WORD printable that ends a word while eight tickets are queued stays at the head, with nothing of it done (R149). -/
theorem test_WordWaitsForATicket_premises :
    (let s := fun n : Nat =>
       let u := composing .word 0x20 144 [cell 0 0x61 120 12 .held, cell 1 0x62 132 12 .held]
       { u with
         spelling := { (wording .available n []).spelling with openWord := [0, 1] }
         composer := { u.composer with openGroup := [0, 1] } }
     refusal wheel7 .word 0x20 (takeHead .keyboard (s 8)) = none ∧ (s 8).composer.nextCell ∉ (s 8).spelling.openWord ∧
     capture [0, 1] .word (takeHead .keyboard (s 8)) = none ∧ classOf (s 8) 0x20 = .space ∧
     leads (exec (.composePrintable .keyboard) (s 8)) (· = s 8) = true ∧
     leads (exec (.composePrintable .keyboard) (s 7)) (fun t => t.composer.closedGroups = [[0, 1, 2]] &&
       t.spelling.queue.length = 8 && t.spelling.openWord = []) = true) := by decide +kernel

/-- The captures of a LINE function: none, one, and one that finds no place in the spell queue. -/
theorem test_LineSpelling_premises :
    (let s := fun (queue cursor : Nat) =>
       let u := wording .available queue ([0x61, 0x62, 0x20, 0x63] : List Code)
       { u with
         lines := { u.lines with current := { u.lines.current with composition := some .line } }
         composer := { u.composer with cursor := cursor, nextCell := 4 } }
     let runIds := fun u : State => (runsToCapture false u).map fun r => r.map (·.id)
     runIds (s 0 2) = [[3]] ∧ runIds (s 0 3) = [[0, 1]] ∧
     ((lineSpelling false (s 7 3)).map fun y => (y.lines.current.cells.map (·.mark), runIds y)) =
       some ([.checking, .checking, .none, .none], []) ∧
     captureRun ((s 8 3).lines.current.cells.take 2) (s 8 3) = none ∧ (lineSpelling false (s 8 3)).isNone = true ∧
     runIds (misspelt .known .held) = [] ∧ lineSpelling false (misspelt .known .held) = some (misspelt .known .held)) := by
  decide +kernel

/-- The flush of a WORD line (R73): the open group closes and the open word is captured; with eight tickets queued both stay. -/
theorem test_CloseOpen_premises :
    (let s := fun (n : Nat) (word : List Nat) =>
       let u := wording .available n [0x61, 0x62]
       { u with
         spelling := { u.spelling with openWord := word }
         composer := { u.composer with openGroup := [1], closedGroups := [[0]] } }
     ((closeOpen (s 7 [0, 1])).composer.closedGroups = [[0], [1]] ∧ (closeOpen (s 7 [0, 1])).spelling.queue.length = 8 ∧
       (closeOpen (s 7 [0, 1])).spelling.openWord = []) ∧
     endWord .word (s 8 [0, 1]) = none ∧ closeOpen (s 8 [0, 1]) = s 8 [0, 1] ∧
     (closeOpen (s 8 [])).composer.openGroup = []) := by decide +kernel

/-- The release of a LINE line (R30, R82): a cell not on the wheel gone with its word's ticket; RELEASING while cells are held; the
RETURN at once when nothing is left to print. -/
theorem test_ReleasedLines_premises :
    (let line := fun cells : List Cell => releaseLine .keyboard wheel7 (composing .line 0x0D 120 cells)
     let ticketed := fun (n : Nat) (code : Code) => { cell n code 0 12 .held with ticket := some 40, word := some 0 }
     let one := line [ticketed 0 0x61, ticketed 1 0x7F]
     let none_ := line [cell 0 0x7F 120 12 .held, cell 1 0x20 120 12 .held]
     (one.lines.outgoing.map fun l => (l.state, l.cells.map fun c => (c.id, c.start, c.ticket))) =
       some (.releasing, [(0, 120, none)]) ∧
     one.notices.keyboard.pending = [⟨.skippedCharacters, 1, [1]⟩] ∧ one.composer.release = some ⟨0, .keyboard⟩ ∧
     one.streams.holder = none ∧ one.lines.current.composition = none ∧ one.composer.p = 120 ∧
     (none_.lines.outgoing.map fun l => (l.state, l.cells, l.returnSerial)) = some (.printing, [], some 1) ∧
     none_.composer.release = none ∧ (none_.dispatch.orders.map fun o => o.job.kind) = [.init, .ret]) := by decide +kernel

/-- A release that drops a cell between two captured words (R30, R159): both words lose ticket and mark at once, and leave the
queue; a SPELL HOLD cell returns to HELD; a word further on keeps its ticket and its mark. -/
theorem test_DroppedSeparators_premises :
    (let of := fun (n : Nat) (k : Nat) (m : SpellMark) (st : CellState) =>
       { cell n 0x61 0 12 st with ticket := some (byte k), word := some k, mark := m }
     let s := composing .line 0x0D 120 [of 0 40 .known .held, of 1 40 .known .held, cell 2 0x7F 0 12 .held, of 3 41 .unknown .held,
       of 4 41 .unknown .spellHold, cell 5 0x20 0 12 .held, of 6 42 .known .held, of 7 42 .known .held]
     let s := { s with spelling := { s.spelling with queue := [⟨40, false⟩, ⟨42, false⟩] } }
     let t := releaseLine .keyboard wheel7 s
     ((allCells (takeHead .keyboard s)).map (·.id)).Nodup ∧
     (allCells t).map (fun c => (c.id, c.ticket, c.mark, c.state)) =
       [(0, none, .none, .held), (1, none, .none, .held), (3, none, .none, .held), (4, none, .none, .held),
        (5, none, .none, .held), (6, some 42, .known, .held), (7, some 42, .known, .held)] ∧
     t.spelling.queue = [⟨42, false⟩]) := by decide +kernel

/-- What a release carries (R32, R81): two cells in the new line, which stays a LINE line of its holder; a line without an interior
SPACE cell that is justified raises JUSTIFY FAILED, reason NO SPACES, with the shortfall of 12 (R36). -/
theorem test_CarriedCells_premises :
    (let s := composing .line 0x0D 120 ((List.range 67).map fun n => cell n (if n = 64 then 0x20 else 0x61) 0 12 .held)
     let t := releaseLine .keyboard wheel7
       { s with lines := { s.lines with current := { s.lines.current with layout := .justify } } }
     (t.lines.outgoing.map fun l => l.cells.length) = some 64 ∧
     (t.lines.current.cells.map fun c => (c.id, c.start)) = [(65, 120), (66, 132)] ∧
     t.lines.current.composition = some .line ∧ t.streams.holder = some .keyboard ∧ t.composer.cursor = 2 ∧ t.composer.p = 144 ∧
     t.notices.keyboard.pending = [⟨.justifyFailed, 1, [0, 0, 0, 12]⟩]) := by decide +kernel

/-- Breaking a line (R31 to R33): trailing SPACE cells, a line that ends at M and one step past it, a SPACE that ends at M, no
SPACE and an end at Q and past it. -/
theorem test_LineBreaks_premises :
    (let a := fun w : Nat => cell 0 0x61 0 w .held
     let sp := cell 1 0x20 0 10 .held
     let ids := fun b : Broken => (b.printed.map (·.width), b.carried.map (·.width), b.isCarried, b.overfull, b.leftOnly)
     trimTrailing [sp, a 5, sp, sp] = [sp, a 5] ∧
     [ids (breakLine 120 900 1140 [a 780, sp]), ids (breakLine 120 900 1140 [a 770, sp, a 1]),
       ids (breakLine 120 900 1140 [a 771, sp, a 1]), ids (breakLine 120 900 1140 [sp, a 1019]),
       ids (breakLine 120 900 1140 [a 1010, sp, a 1]), ids (breakLine 120 900 1140 [a 500, sp, a 300, sp, sp, a 7])] =
     [([780], [], false, false, false), ([770], [1], true, false, false), ([771, 10, 1], [], false, true, false),
       ([], [1019], false, true, true), ([1010], [1], false, true, true), ([500], [300, 10, 10, 7], true, false, false)]) := by
  decide +kernel

/-- CENTRE and FLUSH RIGHT of a line wider than T begin at L. -/
theorem test_WideLines_premises :
    ([Layout.centre, .flush].map fun l => (layOut 120 900 1140 24 l [cell 0 0x61 0 781 .held]).printed.head?.map (·.start)) =
      [some 120, some 120] := by decide +kernel

/-- CLEAR LINE (R80, R45, R46): a line left empty, with a page hold that waits and without one; WORD with cells left; LINE;
DIRECT on an empty line. -/
theorem test_ClearLine_premises :
    (let waits := fun s : State => { s with streams := { s.streams with pageHold := .waiting } }
     let seen := fun t : State => (t.lines.current.composition, t.streams.holder, t.composer.p, t.composer.cursor,
       t.lines.current.cells.map (·.id))
     let after := fun s : State => match exec .clearLine s with
       | .next t => seen t
       | _ => (none, none, 0, 0, [])
     let two := fun st : CellState => [cell 0 0x61 120 12 st, cell 1 0x62 132 12 .held]
     let grouped := fun s : State => { s with composer := { s.composer with openGroup := [1] } }
     Admits .keyboard 0x1E (composing .line 0x1E 144 (two .held)) ∧
     [after (composing .line 0x1E 144 (two .held)), after (waits (composing .word 0x1E 144 (two .held))),
       after (grouped (composing .word 0x1E 144 (two .printed))), after (composing .direct 0x1E 300 [])] =
     [(none, none, 120, 0, []), (some .direct, some .interface, 120, 2, []), (some .word, some .keyboard, 132, 2, [0]),
       (none, none, 300, 0, [])] ∧
     leads (exec .clearLine (waits (composing .word 0x1E 144 (two .held)))) (fun t => t.streams.pageHold = .on &&
       t.streams.lapseTimer = some 10) = true ∧
     leads (exec .clearLine (grouped (composing .word 0x1E 144 (two .printed)))) (fun t => t.composer.openGroup = []) = true) := by
  decide +kernel

/-- Held targets (R132, R76): the closed group that loses a cell is open again when it is the last and none is open; P is the
first deleted cell's start. -/
theorem test_DeletedHeldCells_premises :
    (let s := fun (open_ : List Nat) (closed : List (List Nat)) =>
       let u := misspelt .known .held
       let cells := u.lines.current.cells ++ [cell 2 0x20 144 12 .held, cell 3 0x63 156 12 .held]
       { u with
         lines := { u.lines with current := { u.lines.current with cells := cells } }
         composer := { u.composer with p := 168, openGroup := open_, closedGroups := closed, nextCell := 4 } }
     let seen := fun t : State => (t.composer.openGroup, t.composer.closedGroups, t.lines.current.cells.map fun c => (c.id, c.ticket))
     [seen (deleteHeld [2] (s [] [[0, 1, 2]])), seen (deleteHeld [2] (s [3] [[0, 1, 2]])),
       seen (deleteHeld [2] { s [] [[0, 1, 2]] with lines := { (s [] []).lines with current := { (s [] []).lines.current with
         cells := (s [] []).lines.current.cells.take 3 } } })] =
     [([0, 1], [], [(0, some 40), (1, some 40), (3, none)]), ([3], [[0, 1]], [(0, some 40), (1, some 40), (3, none)]),
       ([0, 1], [], [(0, none), (1, none)])] ∧
     (let targets := (s [3] [[0, 1, 2]]).lines.current.cells.drop 2
      (targets.all (·.state = .held)) = true ∧ targets.head? = some (cell 2 0x20 144 12 .held) ∧
      (carryOut .word targets (s [3] [[0, 1, 2]])).composer.p = 144 ∧
      (carryOut .word targets (s [3] [[0, 1, 2]])).lines.current.cells.map (·.id) = [0, 1])) := by decide +kernel

/-- A WORD line of a cell struck FETCHED and PENDING, a PRINTED SPACE cell and a held cell, over a queue of orders. -/
def correcting (os : List Order) : State :=
  let u := withOrders os (holding .keyboard .word [{ cell 0 0x61 120 12 .released with outstanding := 2 },
    cell 1 0x20 132 12 .printed, cell 2 0x62 144 12 .held] running)
  { u with composer := { u.composer with p := 156, openGroup := [2], nextCell := 3 } }

/-- The strikes of the first cell of `correcting`. -/
def twoStrikes : List Order :=
  [⟨9, true, 0, 3, striking .strike 0 126 7⟩, ⟨10, false, 0, 3, { striking .strike 0 127 7 with role := some .bold }⟩]

theorem test_Correcting_premises :
    SerialsOk (correcting twoStrikes) ∧ CellIdsOk (correcting twoStrikes) ∧ HeldCellsOk (correcting twoStrikes) ∧
    StrikesOk (correcting twoStrikes) ∧ LinksOk (correcting twoStrikes) ∧ LineEndsOk (correcting twoStrikes) ∧
    ((correcting twoStrikes).lines.current.cells.take 2).Sublist (correcting twoStrikes).lines.current.cells := by
  refine ⟨?_, ?_, ?_, ?_, ?_, ?_, ?_⟩ <;> decide +kernel

/-- Targets on paper (R133, R136): a LIFT for the FETCHED strike, the PENDING one withdrawn, a cell without strikes removed; P and
the held cells left follow. Without a LIFT the MOVE merges into a PENDING MOVE at the tail. -/
theorem test_CarriedOutCorrections_premises :
    (let targets := fun n : Nat => ((correcting []).lines.current.cells.drop n).take (2 - n)
     let t := carryOut .word (targets 0) (correcting twoStrikes)
     let v := carryOut .word (targets 1) (correcting (twoStrikes ++ [⟨30, false, 0, 0, Job.plain .move 144 .keyboard none⟩]))
     (t.lines.current.cells.map fun c => (c.id, c.start, c.state, c.outstanding)) = [(0, 120, .lifting, 1), (2, 120, .held, 0)] ∧
     t.composer.p = 132 ∧ (t.dispatch.orders.map fun o => (o.job.kind, o.job.link)) =
       [(.strike, none), (.lift, some (.serial 9)), (.move, none)] ∧
     (v.dispatch.orders.map fun o => (o.serial, o.job.target)) = [(9, 126), (10, 127), (30, 132)] ∧
     (v.lines.current.cells.map fun c => (c.id, c.start)) = [(0, 120), (2, 132)] ∧ v.composer.p = 144) := by decide +kernel

/-- Orders of a correction that find no place wait (R135): in a full queue, and while a HOME is held. -/
theorem test_CorrectionsThatWait_premises :
    (let full := correcting (twoStrikes.take 1 ++ List.replicate 31 ⟨30, false, 0, 3, striking .strike 7 300 7⟩)
     let homing := { correcting twoStrikes with dispatch := { (correcting twoStrikes).dispatch with homeHeld := some 300 } }
     let seen := fun s : State => let v := carryOut .direct (s.lines.current.cells.take 2) s
       (v.dispatch.orders.length, v.correction.held.map fun j => j.kind)
     [seen full, seen homing] = [(32, [.lift, .move]), (1, [.lift, .move])]) := by decide +kernel

/-! ## Witnesses: what stays as it was -/

/-- A word over a RELEASED and two held cells: its ticket goes with the held ones at CLEAR LINE, a group being issued keeps the
rest, orders and strike records stay (R80, R159). -/
theorem test_ClearLine_keeps_premises :
    (let captured := fun c : Cell => { c with ticket := some 7, word := some 0, mark := .known }
     let s := composing .word 0x1E 156 [captured { cell 0 0x61 120 12 .released with outstanding := 1 },
       captured (cell 1 0x62 132 12 .held), cell 2 0x63 144 12 .held]
     let s := withOrders [⟨9, false, 0, 3, striking .strike 0 126 7⟩] (remembering [record 0 0 8 false] s)
     let s := { s with composer := { s.composer with issue := some ⟨[1, 2], 0, .keyboard⟩ } }
     leads (exec .clearLine s) (fun t => t.lines.current.cells = [{ cell 0 0x61 120 12 .released with outstanding := 1 }] &&
       t.composer.issue = some ⟨[], 0, .keyboard⟩ && t.dispatch.orders = s.dispatch.orders &&
       t.correction.memory = s.correction.memory && t.composer.p = 132) = true) := by decide +kernel

/-- A correction of one cell of a word: the other cell of the word loses the ticket, a third keeps its own; with all 256 serials
in use the LIFT and the MOVE take those of the two oldest records. -/
theorem test_CorrectionsKeepOthers_premises :
    (let captured := fun (n : Byte) (c : Cell) => { c with ticket := some n, word := some n.toNat, mark := .known }
     let line := [captured 3 (cell 0 0x61 120 12 .printed), cell 1 0x20 132 12 .printed, captured 4 (cell 2 0x62 144 12 .printed),
       captured 4 (cell 3 0x63 156 12 .printed)]
     let s := { holding .keyboard .direct line running with composer := { running.composer with p := 168, nextCell := 4 } }
     let full := remembering ((List.range 256).map fun i => record i (if i = 255 then 3 else i % 2) (byte i) false) s
     let few := remembering [record 0 3 0 false] s
     let seen := fun t : State => t.lines.current.cells.map fun c => (c.state, c.ticket, c.fixed)
     seen (carryOut .direct [captured 4 (cell 3 0x63 156 12 .printed)] few) =
       [(.printed, some 3, false), (.printed, none, false), (.printed, none, false), (.lifting, none, false)] ∧
     (carryOut .direct [captured 4 (cell 3 0x63 156 12 .printed)] few).correction.memory.map (·.pending) = [true] ∧
     (let t := carryOut .direct [captured 4 (cell 3 0x63 156 12 .printed)] full
      seen t = [(.printed, some 3, true), (.printed, none, true), (.printed, none, false), (.lifting, none, false)] ∧
      t.correction.memory.length = 254)) := by decide +kernel

/-- The release of a group that drops a cell: a PRINTED cell before it stays, but for the ticket the two shared. -/
theorem test_ReleasedGroupKeepsOthers_premises :
    (let captured := fun c : Cell => { c with ticket := some 4, word := some 4, mark := .known }
     let s := holding .keyboard .word [cell 0 0x61 120 12 .printed, captured (cell 1 0x62 132 12 .printed),
       captured (cell 2 0x7F 144 12 .held), cell 3 0x63 156 12 .held] running
     (releaseGroup wheel7 144 [2, 3] [] s).lines.current.cells =
       [cell 0 0x61 120 12 .printed, cell 1 0x62 132 12 .printed, cell 3 0x63 144 12 .held]) := by decide +kernel

/-- A run of which one cell still carries a ticket, as SET CLASSES can leave it: the cursor moving away captures it, the ticket
cancelled first. -/
theorem test_CapturedAgain_premises :
    (let s := composing .line 0x18 144 [{ cell 0 0x61 120 12 .held with ticket := some 9, word := some 0, mark := .known },
       cell 1 0x62 132 12 .held, cell 2 0x20 144 12 .held, cell 3 0x20 156 12 .held]
     let s := { s with
       composer := { s.composer with nextWord := 1 }, spelling := { s.spelling with tickets := [⟨9, [0x61], .keyboard, false⟩] } }
     (runsToCapture false s).map (fun r => r.map (·.id)) = [[0, 1]] ∧
     leads (exec .cursorLeft s) (fun t => t.composer.cursor = 3 && t.spelling.tickets.map (·.word) = [[0x61, 0x62]] &&
       t.lines.current.cells.map (·.mark) = [.checking, .checking, .none, .none]) = true) := by decide +kernel

/-! ## Witnesses: the laws that every step keeps -/

/-- The state after reset with one command waiting. -/
def waiting : State := { State.reset with pending := [.keys .keyboard [0x61]] }

theorem test_BlocksLaws_premises :
    StreamsOk waiting.streams ∧ SettingsOk waiting.settings ∧ EnergyOk waiting.energy ∧ ServiceOk waiting.service ∧
    DisplayOk waiting.display ∧ NoticesOk waiting.notices ∧
    leads (step waiting) (fun t => t.streams.typeAhead = [0x61]) = true := by
  refine ⟨?_, ?_, ?_, ?_, ?_, ?_, ?_⟩ <;> decide +kernel

theorem test_PortsLaw_premises : PortsOk waiting ∧ PortsOk (serving true (some .interface) waiting) := by
  constructor <;> intro st <;> cases st <;> decide +kernel

theorem test_QueueLaws_premises :
    QueueOk waiting.dispatch ∧ SerialsOk waiting ∧ LinesOk waiting.lines ∧ SpellingOk waiting.spelling ∧ HolderOk waiting ∧
    OfferOk waiting := by
  refine ⟨?_, ?_, ?_, ?_, ?_, ?_⟩ <;> decide +kernel

/-- A cell of INTERFACE is created on a free line, which INTERFACE then holds (Law 5, R44). -/
theorem test_CreatesForItsHolder_premises :
    (let s := { running with streams := { running.streams with interfaceQ := [0x61] } }
     (allCells s).all (·.id ≠ s.composer.nextCell) = true ∧
     leads (step { s with pending := [.composePrintable .interface] }) (fun t => t.streams.holder = some .interface &&
       t.lines.current.cells.map (fun c => (c.id, c.source)) = [(s.composer.nextCell, .interface)]) = true) := by decide +kernel

/-- A line with a released and a LIFTING cell, their strike in the queue and in a record with its LIFT, an outgoing line ahead of
its RETURN. -/
def working : State :=
  let s := holding .keyboard .direct [{ cell 1 0x61 120 12 .released with outstanding := 1 }, cell 2 0x62 300 12 .lifting,
    cell 3 0x63 312 12 .printed] running
  let s := withOrders [⟨20, true, 0, 3, striking .strike 0 126 7⟩, ⟨21, false, 0, 1, Job.plain .ret 120 .keyboard (some 2)⟩,
    ⟨22, false, 0, 3, striking .strike 1 126 7⟩, ⟨23, false, 0, 5, lifting (.record 0 9) 2⟩] s
  let s := remembering [record 0 2 9 true, { record 1 3 10 false with position := 318 }] s
  { s with
    lines := { s.lines with outgoing := some ⟨[{ cell 0 0x64 120 12 .released with outstanding := 1 }], .left, some .direct, 120,
      .printing, some 21⟩ }
    composer := { s.composer with p := 324, nextCell := 4 }
    correction := { s.correction with nextRecord := 2 }
    dispatch := { s.dispatch with offerable := true } }

theorem test_PositionsAndReferences_premises :
    (SettingsOk working.settings ∧ WheelsOk working.wheels) ∧ PositionsOk working ∧ CostsOk working ∧
    (SerialsOk working ∧ HolderOk working) ∧
    leads (step { working with pending := [.orderDone .mechanism [20, 0, 0]] }) (fun t => decide (PositionsOk t) &&
      t.lines.outgoing.any (fun l => l.cells.map (·.state) = [.printed])) = true := by
  refine ⟨?_, ?_, ?_, ?_, ?_⟩ <;> decide +kernel

theorem test_References_premises :
    CellIdsOk working ∧ HeldCellsOk working ∧ StrikesOk working ∧ LinksOk working ∧ LineEndsOk working := by
  refine ⟨?_, ?_, ?_, ?_, ?_⟩ <;> decide +kernel

end Sys2Proof.Tests
end

section
/-! PROOFS. SET CLASSES (R4): what a run of entries decodes to, and what overwriting a run of places leaves. -/

namespace Sys2Proof.ClassRuns

open Sys2Proof.Machine Sys2Proof.Safety Sys2Proof.Laws

/-! ## Overwriting consecutive places -/

/-- Places before the first one written and behind the last one stay. -/
theorem getElem?_overwrite_outside {α : Type} {i j : Nat} {xs ys : List α} (h : j < i ∨ i + xs.length ≤ j) :
    (overwrite i xs ys)[j]? = ys[j]? := by
  induction xs generalizing i ys with
  | nil => rfl
  | cons x xs ih =>
    rw [List.length_cons] at h
    calc (overwrite (i + 1) xs (ys.set i x))[j]?
        = (ys.set i x)[j]? := ih (by omega)
      _ = ys[j]? := List.getElem?_set_ne (by omega)

/-- A place of the run holds the run's item, as long as the run stays within the list. -/
theorem getElem?_overwrite_inside {α : Type} {i n : Nat} {xs ys : List α} (hn : n < xs.length)
    (hfit : i + xs.length ≤ ys.length) : (overwrite i xs ys)[i + n]? = xs[n]? := by
  induction xs generalizing i n ys with
  | nil => simp at hn
  | cons x xs ih =>
    rw [List.length_cons] at hn hfit
    cases n with
    | zero =>
      calc (overwrite (i + 1) xs (ys.set i x))[i]?
          = (ys.set i x)[i]? := getElem?_overwrite_outside (by omega)
        _ = some x := List.getElem?_set_self (by omega)
    | succ n =>
      have hnext : i + (n + 1) = i + 1 + n := by omega
      calc (overwrite (i + 1) xs (ys.set i x))[i + (n + 1)]?
          = xs[n]? := by rw [hnext]; exact ih (by omega) (by simp; omega)

/-! ## The entries of a run -/

/-- The class and fold bytes of an entry pass the checks of R4: a class other than CONTROL and SPACE, and a fold code that is
printable when the class is LETTER. -/
abbrev EntryOk (k f : Byte) : Prop := 2 ≤ k.toNat ∧ k.toNat ≤ 6 ∧ (k.toNat = 2 → 0x20 ≤ f.toNat)

/-- The first `n` entries of a run pass the checks of R4. -/
def RunOk (n : Nat) (data : List Byte) : Prop :=
  ∀ i k f, i < n → data[2 * i]? = some k → data[2 * i + 1]? = some f → EntryOk k f

/-- The entry that R4 writes for a code from a class byte and a fold byte. -/
def IsEntryFor (code : Nat) (k f : Byte) (e : ClassEntry) : Prop :=
  e.cls.number = k.toNat ∧ e.fold = if k.toNat = 2 then f else byte code

theorem runOk_succ {n : Nat} {k f : Byte} {bs : List Byte} :
    RunOk (n + 1) (k :: f :: bs) ↔ EntryOk k f ∧ RunOk n bs := by
  constructor
  · intro h
    exact ⟨h 0 k f (by omega) rfl rfl, fun i k' f' hi hk hf => h (i + 1) k' f' (by omega) hk hf⟩
  · rintro ⟨hhead, htail⟩ i k' f' hi hk hf
    cases i with
    | zero =>
      obtain rfl : k = k' := Option.some.inj hk
      obtain rfl : f = f' := Option.some.inj hf
      exact hhead
    | succ i => exact htail i k' f' (by omega) hk hf

/-- A class number names the class that bears it. -/
theorem ofNumber_eq_some_iff {n : Nat} {c : CharClass} : CharClass.ofNumber n = some c ↔ c.number = n := by
  constructor
  · intro h
    unfold CharClass.ofNumber at h
    split at h <;> cases h <;> rfl
  · rintro rfl
    cases c <;> rfl

theorem ofNumber_eq_none {n : Nat} (h : CharClass.ofNumber n = none) : 6 < n := by
  by_contra hle
  interval_cases n <;> cases h

/-- The first entry of a run whose class byte is the number of a class: when it passes the checks it stands before the entries of
the rest, and otherwise the run is refused. -/
theorem classRun_cons {code : Nat} {k f : Byte} {bs : List Byte} {c : CharClass} (hc : c.number = k.toNat) :
    classRun code (k :: f :: bs) = if EntryOk k f then
      (classRun (code + 1) bs).map (⟨c, if k.toNat = 2 then f else byte code⟩ :: ·) else none := by
  have hk := ofNumber_eq_some_iff.2 hc
  cases c with
  | control | space =>
    have hbad : ¬ EntryOk k f := by simp [EntryOk, ← hc, CharClass.number]
    rw [if_neg hbad]
    simp [classRun, hk]
  | letter =>
    have htwo : k.toNat = 2 := hc.symm
    have hiff : EntryOk k f ↔ ¬ f.toNat < 0x20 := by simp [EntryOk, htwo]
    rw [if_pos htwo, if_congr hiff rfl rfl, ite_not]
    cases hrest : classRun (code + 1) bs <;> simp [classRun, hk, hrest]
  | digit | apostrophe | hyphen | punct =>
    have hok : EntryOk k f := by simp [EntryOk, ← hc, CharClass.number]
    have hother : k.toNat ≠ 2 := by simp [← hc, CharClass.number]
    rw [if_pos hok, if_neg hother]
    cases hrest : classRun (code + 1) bs <;> simp [classRun, hk, hrest]

/-- A run whose first entry fails a check is refused. -/
theorem classRun_cons_refused {code : Nat} {k f : Byte} {bs : List Byte} (h : ¬ EntryOk k f) :
    classRun code (k :: f :: bs) = none := by
  cases hk : CharClass.ofNumber k.toNat with
  | none => simp [classRun, hk]
  | some c => rw [classRun_cons (ofNumber_eq_some_iff.1 hk), if_neg h]

/-- A first entry that passes the checks is put before the entries of the rest. -/
theorem classRun_cons_accepted {code : Nat} {k f : Byte} (h : EntryOk k f) :
    ∃ e, IsEntryFor code k f e ∧ ∀ bs, classRun code (k :: f :: bs) = (classRun (code + 1) bs).map (e :: ·) := by
  cases hk : CharClass.ofNumber k.toNat with
  | none =>
    obtain ⟨-, hhi, -⟩ := h
    exact absurd (ofNumber_eq_none hk) (by omega)
  | some c =>
    have hc := ofNumber_eq_some_iff.1 hk
    exact ⟨_, ⟨hc, rfl⟩, fun bs => by rw [classRun_cons hc, if_pos h]⟩

/-- A run of `n` entries one of which fails a check is refused whole. -/
theorem classRun_eq_none {n code : Nat} {data : List Byte} (hlen : data.length = 2 * n) (h : ¬ RunOk n data) :
    classRun code data = none := by
  induction n generalizing code data with
  | zero => exact absurd (fun _ _ _ hi => absurd hi (Nat.not_lt_zero _)) h
  | succ n ih =>
    match data, hlen with
    | k :: f :: bs, hlen =>
      by_cases hhead : EntryOk k f
      · obtain ⟨e, -, hcons⟩ := classRun_cons_accepted (code := code) hhead
        have htail : ¬ RunOk n bs := fun ht => h (runOk_succ.2 ⟨hhead, ht⟩)
        rw [hcons, ih (by simp at hlen; omega) htail]
        rfl
      · exact classRun_cons_refused hhead

/-- A run of `n` entries that all pass gives one entry for each of its codes. -/
theorem classRun_eq_some {n code : Nat} {data : List Byte} (hlen : data.length = 2 * n) (h : RunOk n data) :
    ∃ es, classRun code data = some es ∧ es.length = n ∧
      ∀ i k f, data[2 * i]? = some k → data[2 * i + 1]? = some f → ∃ e, es[i]? = some e ∧ IsEntryFor (code + i) k f e := by
  induction n generalizing code data with
  | zero =>
    obtain rfl : data = [] := List.length_eq_zero_iff.1 hlen
    exact ⟨[], rfl, rfl, fun _ _ _ hk => by simp at hk⟩
  | succ n ih =>
    match data, hlen with
    | k :: f :: bs, hlen =>
      obtain ⟨hhead, htail⟩ := runOk_succ.1 h
      obtain ⟨e, he, hcons⟩ := classRun_cons_accepted (code := code) hhead
      obtain ⟨es, hes, hlenEs, hget⟩ := ih (code := code + 1) (by simp at hlen; omega) htail
      refine ⟨e :: es, by rw [hcons, hes]; rfl, by simp [hlenEs], fun i k' f' hk hf => ?_⟩
      cases i with
      | zero =>
        obtain rfl : k = k' := Option.some.inj hk
        obtain rfl : f = f' := Option.some.inj hf
        exact ⟨e, rfl, he⟩
      | succ i =>
        obtain ⟨e', he', hentry⟩ := hget i k' f' hk hf
        have hcode : code + 1 + i = code + (i + 1) := by omega
        exact ⟨e', he', hcode ▸ hentry⟩

/-! ## What SET CLASSES answers -/

/-- A count from 1 to 19 and a run within the codes 0x21 to 0xFF (R4). -/
abbrev RangeOk (first count : Byte) : Prop :=
  1 ≤ count.toNat ∧ count.toNat ≤ 19 ∧ 0x21 ≤ first.toNat ∧ first.toNat + count.toNat ≤ 256

/-- A request of SET CLASSES that passes every check of R4 but the one on its length. -/
def RequestOk (first count : Byte) (data : List Byte) : Prop :=
  1 ≤ count.toNat ∧ count.toNat ≤ 19 ∧ 0x21 ≤ first.toNat ∧ first.toNat + count.toNat ≤ 256 ∧ RunOk count.toNat data

theorem requestOk_iff {first count : Byte} {data : List Byte} :
    RequestOk first count data ↔ RangeOk first count ∧ RunOk count.toNat data := by
  simp only [RequestOk, RangeOk, and_assoc]

/-- The state with a run of entries written into its class table, as SET CLASSES leaves it. -/
def withClasses (first : Byte) (es : List ClassEntry) (s : State) : State :=
  onWheels (fun w => { w with classes := overwrite first.toNat es w.classes }) s

theorem setClasses_short {payload : List Byte} {s : State} (h : payload.length < 2) :
    setClasses payload s = answered .badRequest s := by
  match payload, h with
  | [], _ => rfl
  | [_], _ => rfl

section
variable {first count : Byte} {data : List Byte} {s : State}

theorem setClasses_wrongLength (h : data.length ≠ 2 * count.toNat) :
    setClasses (first :: count :: data) s = answered .badRequest s := by
  simp [setClasses, h]

/-- The model's check of count and codes is the range of R4. -/
theorem rangeCheck_iff :
    (count = 0 ∨ 19 < count.toNat ∨ 256 < first.toNat + count.toNat ∨ first.toNat ≤ 0x20) ↔
      ¬ RangeOk first count := by
  have hzero : count = 0 ↔ count.toNat = 0 := by bv_omega
  rw [hzero]
  omega

theorem setClasses_badValue (hlen : data.length = 2 * count.toNat) (h : ¬ RequestOk first count data) :
    setClasses (first :: count :: data) s = answered .badValue s := by
  by_cases hrange : RangeOk first count
  · have hrun : ¬ RunOk count.toNat data := fun hrun => h (requestOk_iff.2 ⟨hrange, hrun⟩)
    simp only [setClasses, hlen, classRun_eq_none hlen hrun, ne_eq, not_true_eq_false, if_false, ite_self]
  · simp only [setClasses, hlen, ne_eq, not_true_eq_false, if_false, if_pos (rangeCheck_iff.2 hrange)]

/-- A valid run is written whole, one entry for each of its codes. -/
theorem setClasses_writes (hlen : data.length = 2 * count.toNat) (h : RequestOk first count data) :
    ∃ es, setClasses (first :: count :: data) s = ok (withClasses first es s) ∧ es.length = count.toNat ∧
      ∀ i k f, data[2 * i]? = some k → data[2 * i + 1]? = some f →
        ∃ e, es[i]? = some e ∧ IsEntryFor (first.toNat + i) k f e := by
  obtain ⟨hrange, hrun⟩ := requestOk_iff.1 h
  obtain ⟨es, hes, hlenEs, hget⟩ := classRun_eq_some (code := first.toNat) hlen hrun
  refine ⟨es, ?_, hlenEs, hget⟩
  simp only [setClasses, hlen, ne_eq, not_true_eq_false, if_false, if_neg (mt rangeCheck_iff.1 (not_not.2 hrange)), hes]
  rfl

end

/-! ## The class table after the run -/

theorem withClasses_frame (first : Byte) (es : List ClassEntry) (s : State) :
    Frame [.wheels] s (withClasses first es s) :=
  frame_intro (by simp [Same, withClasses])

theorem classEntry_of_wheels {s t : State} (h : t.wheels = s.wheels) (c : Code) : classEntry t c = classEntry s c := by
  simp [classEntry, h]

/-- The entry of a code outside the run stays. -/
theorem classEntry_withClasses_outside {first : Byte} {es : List ClassEntry} {s : State} {c : Code}
    (h : c.toNat < first.toNat ∨ first.toNat + es.length ≤ c.toNat) :
    classEntry (withClasses first es s) c = classEntry s c := by
  simp only [classEntry, withClasses, onWheels_wheels, List.getD_eq_getElem?_getD, getElem?_overwrite_outside h]

/-- The entry of a code of the run is the run's. -/
theorem classEntry_withClasses_inside {first : Byte} {es : List ClassEntry} {s : State} {c : Code} {e : ClassEntry}
    (hfit : first.toNat + es.length ≤ s.wheels.classes.length) (hc : first.toNat ≤ c.toNat)
    (he : es[c.toNat - first.toNat]? = some e) : classEntry (withClasses first es s) c = e := by
  obtain ⟨hlt, -⟩ := List.getElem?_eq_some_iff.1 he
  have hplace : first.toNat + (c.toNat - first.toNat) = c.toNat := by omega
  have hget := getElem?_overwrite_inside hlt hfit
  rw [hplace, he] at hget
  simp [classEntry, withClasses, hget]

/-! ## The obligation -/

/-- Settles O22: the checks by `setClasses_short`, `setClasses_wrongLength` and `setClasses_badValue`; the effect of a valid run by
`setClasses_writes` and the two rules for the entries of `withClasses`. -/
theorem setClassesWritesTheRun : Obligations.SetClassesWritesTheRun := by
  have hrow : ∀ st payload s, exec (.setClasses st payload) s = requestEvent .setClasses st payload (setClasses payload) s :=
    fun _ _ _ => rfl
  refine ⟨fun st payload s hshort hr => request_refused (hrow st payload) hr (setClasses_short hshort), ?_⟩
  intro st first count data s hr hclasses valid
  refine ⟨fun hlen _ => request_refused (hrow st _) hr (setClasses_wrongLength hlen), fun hlen => ⟨fun hbad => ?_, fun hv => ?_⟩⟩
  · exact request_refused (hrow st _) hr (setClasses_badValue hlen hbad)
  · obtain ⟨es, hrule, hlenEs, hget⟩ := setClasses_writes (s := s) hlen hv
    obtain ⟨t, ht, hanswer, hframe⟩ := request_yields (hrow st _) hr hrule rfl
    have hwheels : t.wheels = (withClasses first es s).wheels := hframe .wheels (by simp)
    obtain ⟨-, -, -, hhigh, -⟩ := hv
    refine ⟨t, ht, hanswer, fun c hout => ?_, fun c k f hlo hhi hk hf => ?_, ?_, ?_⟩
    · rw [classEntry_of_wheels hwheels, classEntry_withClasses_outside (by rwa [hlenEs])]
    · obtain ⟨e, he, hnumber, hfold⟩ := hget _ k f hk hf
      have hplace : first.toNat + (c.toNat - first.toNat) = c.toNat := by omega
      have hentry : classEntry t c = e := by
        rw [classEntry_of_wheels hwheels, classEntry_withClasses_inside (by omega) hlo he]
      refine ⟨by rw [classOf, hentry, hnumber], ?_⟩
      rw [hentry, hfold, hplace, byte, BitVec.ofNat_toNat, BitVec.setWidth_eq]
    · rw [hwheels]
      rfl
    · exact frame_trans (frame_mono (withClasses_frame first es s) (by simp)) (frame_mono hframe (by simp))

end Sys2Proof.ClassRuns
end

section
/-! PROOFS. The fields of a setting request (R203): what an enumerated and a clamped field leave, in the words of the statements. -/

namespace Sys2Proof.SettingFields

open Sys2Proof.Machine Sys2Proof.Safety

/-- `ofNumber` reads the valid numbers, each as the value that bears it, and no other number. -/
structure Decodes {α : Type} (ofNumber : Nat → Option α) (number : α → Nat) (valid : Nat → Prop) : Prop where
  accepts : ∀ n, valid n → ∃ a, ofNumber n = some a ∧ number a = n
  refuses : ∀ n, ¬ valid n → ofNumber n = none

section
variable {α : Type} {ofNumber : Nat → Option α} {number : α → Nat} {valid : Nat → Prop} {fs : List (Option Nat)} {i : Nat}

/-- An enumerated field that is absent or valid leaves the value whose number is written. -/
theorem enumOr_accepted (hd : Decodes ofNumber number valid) (hv : ∀ v, field fs i = some v → valid v) (old : α) :
    ∃ a, enumOr fs i ofNumber old = some a ∧ number a = written fs i (number old) := by
  unfold enumOr written
  cases hf : field fs i with
  | none => exact ⟨old, rfl, rfl⟩
  | some n => exact hd.accepts n (hv n hf)

/-- An enumerated field that is not refused is absent or valid. -/
theorem valid_of_enumOr (hd : Decodes ofNumber number valid) {old a : α} (h : enumOr fs i ofNumber old = some a) :
    ∀ v, field fs i = some v → valid v := by
  intro n hf
  by_contra hn
  simp [enumOr, hf, hd.refuses n hn] at h

end

/-- The model brings a field into its range as the statements say. -/
theorem clampOr_eq_writtenIn (fs : List (Option Nat)) (i lo hi old : Nat) :
    clampOr fs i lo hi old = writtenIn fs i lo hi old := by
  unfold clampOr writtenIn
  cases field fs i <;> rfl

theorem outside_iff_exceeds {fs : List (Option Nat)} {i lo hi : Nat} :
    outside fs i lo hi = true ↔ exceeds fs i lo hi := by
  unfold outside exceeds
  cases hf : field fs i <;> simp

end Sys2Proof.SettingFields
end

section
/-! PROOFS. READ DIVERTED and SET STREAMS (R50, R57): what each request answers, case by case, and what it leaves. -/

namespace Sys2Proof.StreamRequests

open Sys2Proof.Machine Sys2Proof.Safety Sys2Proof.Laws Sys2Proof.SettingFields

/-! ## READ DIVERTED (R50) -/

/-- The state with the divert queue replaced. -/
def withDiverted (q : List Code) (s : State) : State := { s with streams := { s.streams with divertQ := q } }

section
variable {n : Byte} {s : State}

/-- The model's check of the count is the range of R50. -/
theorem countCheck_iff : (n = 0 ∨ 32 < n.toNat) ↔ (n.toNat = 0 ∨ 32 < n.toNat) := by
  have hzero : n = 0 ↔ n.toNat = 0 := by bv_omega
  rw [hzero]

theorem readDiverted_badCount (h : n.toNat = 0 ∨ 32 < n.toNat) : readDiverted [n] s = answered .badValue s :=
  if_pos (countCheck_iff.2 h)

theorem readDiverted_empty (hlo : 1 ≤ n.toNat) (hhi : n.toNat ≤ 32) (hq : s.streams.divertQ = []) :
    readDiverted [n] s = answered .none_ s := by
  have hcount : ¬ (n = 0 ∨ 32 < n.toNat) := mt countCheck_iff.1 (by omega)
  simp only [readDiverted, if_neg hcount, hq, List.isEmpty_nil, if_true]

/-- A valid count takes so many codes, or all, off the head of the divert queue. -/
theorem readDiverted_takes (hlo : 1 ≤ n.toNat) (hhi : n.toNat ≤ 32) (hq : s.streams.divertQ ≠ []) :
    readDiverted [n] s =
      (withDiverted (s.streams.divertQ.drop n.toNat) s, ⟨.ok, s.streams.divertQ.take n.toNat⟩) := by
  have hcount : ¬ (n = 0 ∨ 32 < n.toNat) := mt countCheck_iff.1 (by omega)
  have hheld : ¬ s.streams.divertQ.isEmpty = true := mt List.isEmpty_iff.1 hq
  simp only [readDiverted, if_neg hcount, if_neg hheld]
  rfl

end

/-- Settles O15: the three outcomes of `readDiverted`; the codes answered and those left are the two parts of the queue cut at the
count. -/
theorem readDivertedTakesFromTheHead : Obligations.ReadDivertedTakesFromTheHead := by
  have hrow : ∀ st payload s, exec (.readDiverted st payload) s = requestEvent .readDiverted st payload (readDiverted payload) s :=
    fun _ _ _ => rfl
  intro st n s hr
  refine ⟨fun hbad => request_refused (hrow st _) hr (readDiverted_badCount hbad),
    fun hlo hhi hq => request_refused (hrow st _) hr (readDiverted_empty hlo hhi hq), fun hlo hhi hq => ?_⟩
  obtain ⟨t, ht, hyields⟩ := request_yields (hrow st _) hr (readDiverted_takes hlo hhi hq) rfl
  exact ⟨t, _, _, ht, (List.take_append_drop _ _).symm, List.length_take, hyields⟩

/-! ## SET STREAMS (R57) -/

/-- The policies of KEYBOARD are numbered 0 to 2 (R47). -/
theorem kbPolicyOf_decodes : Decodes kbPolicyOf Policy.number (· ≤ 2) where
  accepts n hn := by interval_cases n <;> exact ⟨_, rfl, rfl⟩
  refuses n hn := by
    match n, hn with
    | n + 3, _ => rfl

/-- The policies of INTERFACE are numbered 0 and 1 (R47). -/
theorem ifPolicyOf_decodes : Decodes ifPolicyOf Policy.number (· ≤ 1) where
  accepts n hn := by interval_cases n <;> exact ⟨_, rfl, rfl⟩
  refuses n hn := by
    match n, hn with
    | n + 2, _ => rfl

/-- A room threshold is its own number (R56). -/
theorem thresholdOf_decodes : Decodes thresholdOf id (· ∈ [32, 64, 128, 192]) where
  accepts n hn := ⟨n, if_pos (by simpa using hn), rfl⟩
  refuses n hn := if_neg (by simpa using hn)

/-- The enumerated fields of SET STREAMS are absent or name a value (R57). -/
def FieldsOk (fs : List (Option Nat)) : Prop :=
  atMost fs 0 2 ∧ atMost fs 1 1 ∧ ∀ v, field fs 3 = some v → v ∈ [32, 64, 128, 192]

/-- The streams with the fields of SET STREAMS written: the policies given, and the room-low flag judged anew by the free space
when a threshold is written (R56, R57). -/
def settingsWritten (fs : List (Option Nat)) (kb ifc : Policy) (t : Streams) : Streams :=
  { t with
    kbPolicy := kb, ifPolicy := ifc
    lapseTime := writtenIn fs 2 1 60 t.lapseTime
    roomThreshold := written fs 3 t.roomThreshold
    roomLow := if (field fs 3).isSome = true
      then decide (256 - t.interfaceQ.length < written fs 3 t.roomThreshold) else t.roomLow }

section
variable {payload : List Byte} {fs : List (Option Nat)} {s : State}

theorem setStreams_badValue (hfs : settingFields [1, 1, 2, 1] payload = some fs) (h : ¬ FieldsOk fs) :
    setStreams payload s = answered .badValue s := by
  simp only [setStreams, hfs]
  split
  · rename_i hkb hif hroom
    have hok : FieldsOk fs := ⟨valid_of_enumOr kbPolicyOf_decodes hkb, valid_of_enumOr ifPolicyOf_decodes hif,
      valid_of_enumOr thresholdOf_decodes hroom⟩
    exact absurd hok h
  · rfl

/-- A valid request writes its fields into the streams, and is CLAMPED when the lapse time was out of range. -/
theorem setStreams_writes (hfs : settingFields [1, 1, 2, 1] payload = some fs) (h : FieldsOk fs) :
    ∃ kb ifc, kb.number = written fs 0 s.streams.kbPolicy.number ∧ ifc.number = written fs 1 s.streams.ifPolicy.number ∧
      setStreams payload s = okOrClamped (outside fs 2 1 60) (onStreams (settingsWritten fs kb ifc) s) := by
  obtain ⟨hkbOk, hifOk, hroomOk⟩ := h
  obtain ⟨kb, hkb, hkbNumber⟩ := enumOr_accepted kbPolicyOf_decodes hkbOk s.streams.kbPolicy
  obtain ⟨ifc, hif, hifNumber⟩ := enumOr_accepted ifPolicyOf_decodes hifOk s.streams.ifPolicy
  obtain ⟨room, hroom, rfl⟩ := enumOr_accepted thresholdOf_decodes hroomOk s.streams.roomThreshold
  refine ⟨kb, ifc, hkbNumber, hifNumber, ?_⟩
  simp only [setStreams, hfs, hkb, hif, hroom, clampOr_eq_writtenIn, interfaceSpace]
  rfl

end

/-- The answer's status, CLAMPED just when the lapse time was out of range. -/
theorem lapseStatus (fs : List (Option Nat)) :
    (if outside fs 2 1 60 then Status.clamped else .ok) = .clamped ∧ exceeds fs 2 1 60 ∨
      (if outside fs 2 1 60 then Status.clamped else .ok) = .ok ∧ ¬ exceeds fs 2 1 60 := by
  rw [← outside_iff_exceeds]
  cases outside fs 2 1 60 <;> simp

/-- Settles O16: the refusal by `setStreams_badValue`; the effect of a valid request by `setStreams_writes`. -/
theorem setStreamsWritesTheFields : Obligations.SetStreamsWritesTheFields := by
  have hrow : ∀ st payload s, exec (.setStreams st payload) s = requestEvent .setStreams st payload (setStreams payload) s :=
    fun _ _ _ => rfl
  intro st payload s hr fs hfs
  refine ⟨fun hbad => request_refused (hrow st _) hr (setStreams_badValue hfs hbad), fun hkbOk hifOk hroomOk => ?_⟩
  obtain ⟨kb, ifc, hkb, hif, hrule⟩ := setStreams_writes (s := s) hfs ⟨hkbOk, hifOk, hroomOk⟩
  obtain ⟨t, ht, hanswer, hframe⟩ := request_yields (hrow st _) hr hrule rfl
  have hstreams : t.streams = settingsWritten fs kb ifc s.streams := hframe .streams (by simp)
  have hwrites : Frame [.streams] s (onStreams (settingsWritten fs kb ifc) s) := frame_intro (by simp [Same])
  refine ⟨t, _, ht, hanswer, lapseStatus fs, ?_, ?_, ?_, ?_⟩
  · rw [hstreams]
    exact hkb
  · rw [hstreams]
    exact hif
  · rw [hstreams]
    rfl
  · exact frame_trans (frame_mono hwrites (by simp)) (frame_mono hframe (by simp))

end Sys2Proof.StreamRequests
end
